-- ==== Sys2Proof/Word.lean ====
section
/-! DEFINITION. The word types of the block, one abbreviation per width the spec gives (R6, R23, R27, R30, R31, R35). -/

namespace Sys2Proof

/-- A DDS accumulator or frequency increment: `DDS_ACC_BITS` = `DDS_FREQ_BITS` = 28 (R6, R23). -/
abbrev Phase28 := BitVec 28

/-- A waveform value, a pulse width or a table index: `WAVE_BITS` = `PW_BITS` = 10 (R6, R23). -/
abbrev Wave := BitVec 10

/-- A volume code: `VOL_BITS` = 8 (R6, R230). -/
abbrev Vol := BitVec 8

/-- A linear gain, an entry of `GAIN_LUT`: 17 bits (R262). -/
abbrev Gain := BitVec 17

/-- The noise shift register: `LFSR_BITS` = 23 (R6, R27). -/
abbrev Lfsr := BitVec 23

/-- A timer accumulator or increment: `TMR_BITS` = 32 (R6, R27, R30). -/
abbrev Timer := BitVec 32

/-- A phase-reset bitmask, one bit per global channel: `PRT_MASK_BITS` = 8 (R6, R12, R30). -/
abbrev Mask := BitVec 8

/-- A command address: `ADDR_BITS` = 8 (R6, R31). -/
abbrev Addr := BitVec 8

/-- A command value: `VALUE_BITS` = 32 (R6, R31). -/
abbrev Value := BitVec 32

/-- A command type, `addr[3:0]` (R81). -/
abbrev CmdType := BitVec 4

/-- A DAC port answer: `DAC_BITS` = 12 (R6, R38). -/
abbrev DacOut := BitVec 12

/-- An output sample, Int16 in two's complement (R7, R35). -/
abbrev Sample := BitVec 16

end Sys2Proof
end

