-- ==== Sys2Proof/Config.lean ====
section
/-! DEFINITION. What an implementation fixes: the parameters `P_*` of R6, and the one value the spec leaves free, the
answer of the DAC port (R205). DESIGN CHOICE (log 1): the parameters are one record that State carries, so a statement
about every state holds for every configuration. -/

namespace Sys2Proof

/-- `P_NUM_DAC`: two or three DAC channels (R6, D1). -/
inductive DacCount where
  | two
  | three
deriving DecidableEq, Repr

/-- `P_NUM_PRT`: four or five phase-reset timers (R6, D24). -/
inductive PrtCount where
  | four
  | five
deriving DecidableEq, Repr

/-- `P_NUM_DAC` as a number (R6). -/
def DacCount.num : DacCount → Nat
  | .two => 2
  | .three => 3

/-- `P_NUM_PRT` as a number (R6). -/
def PrtCount.num : PrtCount → Nat
  | .four => 4
  | .five => 5

/-- A lookup table of `w`-bit entries: the table the spec lists (R261, R262), or one given in full (R6 `P_SINE_LUT`,
`P_GAIN_LUT`; log 2). -/
inductive Lut (w : Nat) where
  | listed
  | entries (l : List (BitVec w))
deriving DecidableEq, Repr

/-- One call of the block to the DAC port (R38, R205). -/
inductive DacCall where
  /-- `DacWrite(k, cmd, v)` (R205). -/
  | write (k : Fin 3) (cmd : CmdType) (v : Value)
  /-- `DacPhaseReset(k)` (R177). -/
  | phaseReset (k : Fin 3)
  /-- `DacStep()` (R205, R210). -/
  | step
  /-- `DacReset(p)` (R205, R290). -/
  | reset (preserve : Bool)
deriving DecidableEq, Repr

/-- What stands behind the DAC port (log 4, log 5). -/
inductive DacPort where
  /-- The unknown DAC channels: the answer is the free value `Config.dacFree` of the calls made (R205). -/
  | outside
  /-- A port that gives `dac_out[k]` the same value whatever was called, as 95_test_vectors.md assumes with 2047. -/
  | constant (answers : Vector DacOut 3)
deriving DecidableEq, Repr

/-- The implementation parameters of R6. -/
structure Config where
  /-- `P_NUM_DAC`. -/
  numDac : DacCount
  /-- `P_NUM_PRT`. -/
  numPrt : PrtCount
  /-- `P_SINE_LUT`. -/
  sineLut : Lut 10
  /-- `P_GAIN_LUT`. -/
  gainLut : Lut 17
  /-- `P_ZC_TOL`. -/
  zcTol : Wave
  /-- `P_NOISE_INT_INC`. -/
  noiseIntInc : Timer
  /-- `P_QUEUE_DEPTH`. -/
  queueDepth : Nat
  /-- `P_DRAIN`. -/
  drain : Nat
  /-- `P_STEPS`. -/
  steps : Nat
  /-- `P_RESET_APPLIES_PENDING`. -/
  resetAppliesPending : Bool
  /-- What answers on the DAC port (R205). -/
  dacPort : DacPort
deriving DecidableEq, Repr

namespace Config

/-- The default of every parameter (R6), with the DAC channels unknown (R205). -/
def default : Config where
  numDac := .two
  numPrt := .four
  sineLut := .listed
  gainLut := .listed
  zcTol := 16#10
  noiseIntInc := 0x80000000#32
  queueDepth := 1024
  drain := 1
  steps := 1
  resetAppliesPending := true
  dacPort := .outside

/-- `NUM_CH` = 5 + `P_NUM_DAC` (R6, R12). -/
def numCh (c : Config) : Nat := 5 + c.numDac.num

/-- A table given in full has the length R6 asks for. -/
def lutLength {w : Nat} (t : Lut w) (n : Nat) : Bool :=
  match t with
  | .listed => true
  | .entries l => l.length == n

/-- No gain is above unity, 65536 (R6 `P_GAIN_LUT`). -/
def gainsInRange (t : Lut 17) : Bool :=
  match t with
  | .listed => true
  | .entries l => l.all fun g => g.toNat ≤ 65536

/-- Every parameter is in the legal range of R6. -/
def legal (c : Config) : Bool :=
  lutLength c.sineLut 1024 && lutLength c.gainLut 256 && gainsInRange c.gainLut
    && decide (c.zcTol.toNat ≤ 1022)
    && decide (1 ≤ c.noiseIntInc.toNat)
    && decide (1 ≤ c.queueDepth ∧ c.queueDepth ≤ 2 ^ 32 - 1)
    && decide (1 ≤ c.drain ∧ c.drain ≤ 255)
    && decide (1 ≤ c.steps ∧ c.steps ≤ 255)

/-- The free value of R205: what DAC channel `k` answers after the calls `calls` (newest first). Nothing is known of it
but that it is a 12-bit value and depends on the calls alone (log 4). -/
opaque dacFree (calls : List DacCall) (k : Fin 3) : DacOut

end Config

end Sys2Proof
end

