-- ==== Sys2Proof/Syntax.lean ====
section
/-! DEFINITION. The commands: the queue entry (R31, R80) and the fourteen instructions of R85, one constructor per row of
spec/opcode_table.json. -/

namespace Sys2Proof

/-- A queue entry, the source's QueuedWrite: 8-bit address and 32-bit value (R31, R80). -/
structure Command where
  addr : Addr
  value : Value
deriving DecidableEq, Repr

/-- The register-write commands of R85. `i` is a DDS channel, `k` a DAC channel, `t` a phase-reset timer as the address
names it (R83); `value` is the whole 32-bit operand, of which the meaning takes its field (R86). -/
inductive Instr where
  /-- DDS.FREQ (R100). -/
  | ddsFreq (i : Fin 4) (value : Value)
  /-- DDS.WAVE (R101). -/
  | ddsWave (i : Fin 4) (value : Value)
  /-- DDS.PW (R102). -/
  | ddsPw (i : Fin 4) (value : Value)
  /-- DDS.VOL (R103). -/
  | ddsVol (i : Fin 4) (value : Value)
  /-- DDS.ZCEN (R104). -/
  | ddsZcen (i : Fin 4) (value : Value)
  /-- NZ.FREQ (R140). -/
  | nzFreq (value : Value)
  /-- NZ.CLK (R141). -/
  | nzClk (value : Value)
  /-- NZ.SEED (R142). -/
  | nzSeed (value : Value)
  /-- NZ.VOL (R143). -/
  | nzVol (value : Value)
  /-- NZ.ZCEN (R144). -/
  | nzZcen (value : Value)
  /-- DAC.FWD (R205): forward command type `cmd` and the value to DAC channel `k`. -/
  | dacFwd (k : Fin 3) (cmd : CmdType) (value : Value)
  /-- PRT.FREQ (R170). -/
  | prtFreq (t : Fin 8) (value : Value)
  /-- PRT.MASK (R171). -/
  | prtMask (t : Fin 8) (value : Value)
  /-- PRT.EN (R172). -/
  | prtEn (t : Fin 8) (value : Value)
deriving DecidableEq, Repr

/-- The pseudo-instructions of R94; each expands to one or more commands. -/
inductive Pseudo where
  /-- `NOP`: an ignored address. -/
  | nop
  /-- `DDS.TONE i, f, w, v`. -/
  | ddsTone (i : Fin 4) (f w v : Value)
  /-- `DDS.SILENCE i`. -/
  | ddsSilence (i : Fin 4)
  /-- `NZ.INIT seed, f`. -/
  | nzInit (seed f : Value)
  /-- `PRT.SYNC t, f, mask`. -/
  | prtSync (t : Fin 8) (f mask : Value)
  /-- `PRT.STOP t`. -/
  | prtStop (t : Fin 8)
deriving DecidableEq, Repr

end Sys2Proof
end

