-- ==== Sys2Proof/Machine/State.lean ====
section
/-! DEFINITION. The state of the block as 10_state.md lists it, the sequencer's phase (R201), and the model's own fields
for the world outside: the configuration (log 1), the DAC port's calls (log 4), the host's operations and what they
returned (log 7, log 8, log 9). Plain data throughout. -/

namespace Sys2Proof.Machine

/-- The waveform types of R23 and R87. Codes 6 and 7 are never held (R25), so the type has six values (log 14). -/
inductive Waveform where
  | none
  | sine
  | triangle
  | squareFull
  | squareHalf
  | pwm
deriving DecidableEq, Repr

/-- The volume and zero-cross fields that a DDS channel and the noise channel share (R23, R27; the `c` of
45_volume_mix.md). -/
structure VolumePath where
  /-- Active volume code. -/
  vol : Vol
  /-- Pending volume code. -/
  pvol : Vol
  /-- A pending volume is held. -/
  pvalid : Bool
  /-- Zero-cross deferral enable. -/
  zcen : Bool
  /-- The waveform has left the zero window since the last commit. -/
  armed : Bool
  /-- Waveform value of the last internal step. -/
  w : Wave
deriving DecidableEq, Repr

/-- The register set of a DDS channel (R23). -/
structure DdsChannel extends VolumePath where
  /-- Phase accumulator. -/
  acc : Phase28
  /-- PWM timer accumulator. -/
  tacc : Phase28
  /-- Frequency increment. -/
  freq : Phase28
  /-- Waveform type. -/
  wave : Waveform
  /-- Pulse width. -/
  pw : Wave
deriving DecidableEq, Repr

/-- The register set of the noise channel (R27). -/
structure NoiseChannel extends VolumePath where
  /-- LFSR register. -/
  lfsr : Lfsr
  /-- Reload value (seed). -/
  reload : Lfsr
  /-- Timer accumulator. -/
  acc : Timer
  /-- External timer frequency increment, the shadow register. -/
  freq : Timer
  /-- 1 = internal clock. -/
  intclk : Bool
deriving DecidableEq, Repr

/-- The register set of a phase-reset timer (R30). -/
structure PhaseTimer where
  /-- Timer accumulator. -/
  acc : Timer
  /-- Frequency increment. -/
  freq : Timer
  /-- Channel bitmask. -/
  mask : Mask
  /-- Enable. -/
  en : Bool
deriving DecidableEq, Repr

/-- The phases of the tick sequencer (R201). -/
inductive SeqPhase where
  /-- Waiting for the host. -/
  | idle
  /-- The next action is drain slot `j` of the tick. -/
  | drain (j : Nat)
  /-- The next action is internal step `n` of the tick. -/
  | step (n : Nat)
  /-- The next action is the mix. -/
  | mix
deriving DecidableEq, Repr

/-- The host operations of R218, with the operands as the host hands them over, so that one outside its type can be
refused (R219). -/
inductive HostOp where
  /-- `Enqueue(addr, value)` (R190). -/
  | enqueue (addr value : Nat)
  /-- `QueueStatus()` (R192). -/
  | queueStatus
  /-- `Tick()` (R213). -/
  | tick
  /-- `ClockAndMix(n)` (R214). -/
  | clockAndMix (n : Int)
  /-- `SetMuted(ch, m)` (R217). -/
  | setMuted (ch m : Nat)
  /-- `Reset(p)` (R290). -/
  | reset (preserve : Bool)
deriving DecidableEq, Repr

/-- What a host operation returns (R190, R192, R213, R214; nothing for `SetMuted` and `Reset`, R220). Lists of channels
have `NUM_CH` entries. -/
inductive HostReturn where
  /-- `Enqueue`: accepted or dropped. -/
  | accepted (b : Bool)
  /-- `QueueStatus`: `q_count` and `q_ovf`. -/
  | status (count : Nat) (ovf : Bool)
  /-- `Tick`: `master` and `y`. -/
  | sample (master : Sample) (y : List Sample)
  /-- `ClockAndMix`: the master buffer and the per-channel buffers, in tick order. -/
  | buffers (master : List Sample) (channels : List (List Sample))
  /-- `SetMuted` and `Reset`: done. -/
  | done
deriving DecidableEq, Repr

/-- A `ClockAndMix` in progress (R214): the ticks still to run and the samples of those run so far, in tick order. -/
structure ClockJob where
  remaining : Nat
  master : List Sample
  y : List (List Sample)
deriving DecidableEq, Repr

/-- The state of the machine. -/
structure State where
  /-- The implementation parameters (R6); no step changes them (log 1). -/
  cfg : Config
  /-- The four DDS channels (R23). -/
  dds : Vector DdsChannel 4
  /-- The noise channel (R27). -/
  nz : NoiseChannel
  /-- The phase-reset timers (R30); the fifth exists when `P_NUM_PRT` = 5 (log 3). -/
  prt : Vector PhaseTimer 5
  /-- The register-write queue `q`, head first (R31). -/
  queue : List Command
  /-- The sticky overflow bit `q_ovf` (R33). -/
  qOvf : Bool
  /-- The mute flags (R34); the eighth exists when `P_NUM_DAC` = 3 (log 3). -/
  mute : Vector Bool 8
  /-- The per-channel outputs of the last tick (R35); the eighth exists when `P_NUM_DAC` = 3 (log 3). -/
  y : Vector Sample 8
  /-- The summed output of the last tick (R35). -/
  master : Sample
  /-- The phase of the tick sequencer (R201). -/
  phase : SeqPhase
  /-- The calls made to the DAC port, newest first (R38, R205; log 4). -/
  dacCalls : List DacCall
  /-- The host operations still to be taken, next first (R69; log 7). -/
  hostOps : List HostOp
  /-- The `ClockAndMix` in progress, if any (R214; log 9). -/
  clock : Option ClockJob
  /-- What the host operations have returned, newest first (R220; log 8). -/
  returns : List HostReturn
deriving DecidableEq, Repr

/-- The faults of the machine. There are none: "No command and no host operation faults, stops the block or transfers
control" (R270). Safe: nothing the spec describes ends in one. -/
inductive Fault where
deriving DecidableEq, Repr

/-- Why a step has no next state. -/
inductive Refusal where
  /-- An instruction whose meaning is not written; raised by no arm of `exec`. Safe. -/
  | notModelled (mnemonic : String)
  /-- `Enqueue` with `addr` > 0xFF or `value` > 0xFFFF_FFFF (R219); raised by the sequencer in IDLE. Safe: the spec refuses it. -/
  | enqueueOperand (addr value : Nat)
  /-- `SetMuted` with ch ≥ `NUM_CH` or m ∉ 0, 1 (R219); raised by the sequencer in IDLE. Safe: the spec refuses it. -/
  | setMutedOperand (ch m : Nat)
  /-- `ClockAndMix` with n < 0 (R219); raised by the sequencer in IDLE. Safe: the spec refuses it. -/
  | clockAndMixCount (n : Int)
deriving DecidableEq, Repr

/-- One step's outcome on this machine. -/
abbrev Out := Host.Outcome State Fault Refusal

/-- The volume path after a reset that leaves volume code `v` (R290). -/
def VolumePath.cleared (v : Vol) : VolumePath where
  vol := v
  pvol := 0#8
  pvalid := false
  zcen := false
  armed := false
  w := 0#10

/-- A DDS channel after a reset that leaves volume code `v` (R23, R290). -/
def DdsChannel.cleared (v : Vol) : DdsChannel where
  toVolumePath := VolumePath.cleared v
  acc := 0#28
  tacc := 0#28
  freq := 0#28
  wave := .none
  pw := 0#10

/-- The noise channel after a reset that leaves volume code `v` (R27, R290). -/
def NoiseChannel.cleared (v : Vol) : NoiseChannel where
  toVolumePath := VolumePath.cleared v
  lfsr := 1#23
  reload := 1#23
  acc := 0#32
  freq := 0#32
  intclk := false

/-- A phase-reset timer after a reset (R30, R290). -/
def PhaseTimer.cleared : PhaseTimer where
  acc := 0#32
  freq := 0#32
  mask := 0#8
  en := false

/-- The power-on state (R293), in the default configuration (R6), before the host has asked for anything. -/
def State.reset : State where
  cfg := Config.default
  dds := Vector.replicate 4 (DdsChannel.cleared 255#8)
  nz := NoiseChannel.cleared 255#8
  prt := Vector.replicate 5 PhaseTimer.cleared
  queue := []
  qOvf := false
  mute := Vector.replicate 8 false
  y := Vector.replicate 8 0#16
  master := 0#16
  phase := .idle
  dacCalls := [.reset false]
  hostOps := []
  clock := none
  returns := []

end Sys2Proof.Machine
end

