-- ==== Sys2Proof/Machine/Flags.lean ====
section
/-! DEFINITION. The one-bit computations of the clock step: the carry of a 32-bit timer (R150, R175, R277), the feedback
and output bits of the noise register (R150, R152), and the zero window (R233). -/

namespace Sys2Proof.Machine

/-- A timer overflows: the 33-bit exact sum of accumulator and increment reaches 2^32 (R150, R175). -/
def timerCarry (acc inc : Timer) : Bool := decide (2 ^ 32 ≤ acc.toNat + inc.toNat)

/-- The feedback bit, `lfsr[22] XOR lfsr[17]` (R150). -/
def lfsrFeedback (l : Lfsr) : Bool := l.getLsbD 22 ^^ l.getLsbD 17

/-- One shift of the noise register, `((lfsr << 1) | fb) mod 2^23` (R150, R151). -/
def lfsrShift (l : Lfsr) : Lfsr := (l <<< 1) ||| BitVec.setWidth 23 (BitVec.ofBool (lfsrFeedback l))

/-- The output level of the noise register: 1023 when bit 0 is set, else 0 (R150, R152). -/
def lfsrLevel (l : Lfsr) : Wave := if l.getLsbD 0 then 1023#10 else 0#10

/-- The waveform value is outside the zero window, `w > P_ZC_TOL` (R233, R234). -/
def outsideWindow (c : Config) (w : Wave) : Bool := decide (c.zcTol.toNat < w.toNat)

end Sys2Proof.Machine
end

