-- ==== Sys2Proof/Machine/Operands.lean ====
section
/-! DEFINITION. The operand fields of a command's value (R85, R86, R88) and the waveform codes (R87). -/

namespace Sys2Proof.Machine

/-- `value[27:0]`, the frequency increment of DDS.FREQ (R85). -/
def freqField (v : Value) : Phase28 := v.extractLsb' 0 28

/-- `value[9:0]`, the pulse width of DDS.PW (R85). -/
def pwField (v : Value) : Wave := v.extractLsb' 0 10

/-- `value[7:0]`, the volume code of DDS.VOL and NZ.VOL (R85). -/
def volField (v : Value) : Vol := v.extractLsb' 0 8

/-- `value[7:0]`, the channel bitmask of PRT.MASK (R85). -/
def maskField (v : Value) : Mask := v.extractLsb' 0 8

/-- `value[0]`, the one-bit field of DDS.ZCEN, NZ.CLK, NZ.ZCEN and PRT.EN (R88). -/
def bitField (v : Value) : Bool := v.getLsbD 0

/-- `value[22:0]` with 0 coerced to 1, the seed of NZ.SEED (R86, R142). -/
def seedField (v : Value) : Lfsr :=
  let s : Lfsr := v.extractLsb' 0 23
  if s = 0#23 then 1#23 else s

/-- The waveform type a code names (R87); codes 6 and above name none. -/
def waveformOfCode (n : Nat) : Option Waveform :=
  match n with
  | 0 => some .none
  | 1 => some .sine
  | 2 => some .triangle
  | 3 => some .squareFull
  | 4 => some .squareHalf
  | 5 => some .pwm
  | _ => none

/-- The code of a waveform type, `dds[i].wave` as the 3-bit value of R23. -/
def waveformCode : Waveform → BitVec 3
  | .none => 0#3
  | .sine => 1#3
  | .triangle => 2#3
  | .squareFull => 3#3
  | .squareHalf => 4#3
  | .pwm => 5#3

end Sys2Proof.Machine
end

