-- ==== Sys2Proof/Machine/Tables.lean ====
section
/-! DEFINITION. The two constant tables as spec/46_tables.md lists them (R260 to R262), in rows of sixteen, and the table
reads of a configuration. -/

namespace Sys2Proof.Machine

/-- `SINE_LUT[0..255]` (R261). -/
def sineRowsA : List (List Nat) :=
  [[512, 515, 518, 521, 524, 527, 530, 533, 537, 540, 543, 546, 549, 552, 555, 558],
   [562, 565, 568, 571, 574, 577, 580, 583, 586, 590, 593, 596, 599, 602, 605, 608],
   [611, 614, 617, 620, 623, 627, 630, 633, 636, 639, 642, 645, 648, 651, 654, 657],
   [660, 663, 666, 669, 672, 675, 678, 681, 684, 687, 690, 692, 695, 698, 701, 704],
   [707, 710, 713, 716, 719, 721, 724, 727, 730, 733, 736, 738, 741, 744, 747, 750],
   [752, 755, 758, 761, 763, 766, 769, 772, 774, 777, 780, 782, 785, 788, 790, 793],
   [795, 798, 801, 803, 806, 808, 811, 813, 816, 818, 821, 823, 826, 828, 831, 833],
   [836, 838, 840, 843, 845, 848, 850, 852, 855, 857, 859, 862, 864, 866, 868, 871],
   [873, 875, 877, 879, 882, 884, 886, 888, 890, 892, 894, 896, 898, 900, 903, 905],
   [907, 908, 910, 912, 914, 916, 918, 920, 922, 924, 926, 927, 929, 931, 933, 935],
   [936, 938, 940, 942, 943, 945, 947, 948, 950, 951, 953, 955, 956, 958, 959, 961],
   [962, 964, 965, 967, 968, 969, 971, 972, 973, 975, 976, 977, 979, 980, 981, 982],
   [984, 985, 986, 987, 988, 989, 990, 992, 993, 994, 995, 996, 997, 998, 999, 1000],
   [1000, 1001, 1002, 1003, 1004, 1005, 1006, 1006, 1007, 1008, 1009, 1009, 1010, 1011, 1011, 1012],
   [1013, 1013, 1014, 1014, 1015, 1016, 1016, 1016, 1017, 1017, 1018, 1018, 1019, 1019, 1019, 1020],
   [1020, 1020, 1021, 1021, 1021, 1021, 1022, 1022, 1022, 1022, 1022, 1022, 1022, 1022, 1022, 1022]]

/-- `SINE_LUT[256..511]` (R261). -/
def sineRowsB : List (List Nat) :=
  [[1023, 1022, 1022, 1022, 1022, 1022, 1022, 1022, 1022, 1022, 1022, 1021, 1021, 1021, 1021, 1020],
   [1020, 1020, 1019, 1019, 1019, 1018, 1018, 1017, 1017, 1016, 1016, 1016, 1015, 1014, 1014, 1013],
   [1013, 1012, 1011, 1011, 1010, 1009, 1009, 1008, 1007, 1006, 1006, 1005, 1004, 1003, 1002, 1001],
   [1000, 1000, 999, 998, 997, 996, 995, 994, 993, 992, 990, 989, 988, 987, 986, 985],
   [984, 982, 981, 980, 979, 977, 976, 975, 973, 972, 971, 969, 968, 967, 965, 964],
   [962, 961, 959, 958, 956, 955, 953, 951, 950, 948, 947, 945, 943, 942, 940, 938],
   [936, 935, 933, 931, 929, 927, 926, 924, 922, 920, 918, 916, 914, 912, 910, 908],
   [907, 905, 903, 900, 898, 896, 894, 892, 890, 888, 886, 884, 882, 879, 877, 875],
   [873, 871, 868, 866, 864, 862, 859, 857, 855, 852, 850, 848, 845, 843, 840, 838],
   [836, 833, 831, 828, 826, 823, 821, 818, 816, 813, 811, 808, 806, 803, 801, 798],
   [795, 793, 790, 788, 785, 782, 780, 777, 774, 772, 769, 766, 763, 761, 758, 755],
   [752, 750, 747, 744, 741, 738, 736, 733, 730, 727, 724, 721, 719, 716, 713, 710],
   [707, 704, 701, 698, 695, 692, 690, 687, 684, 681, 678, 675, 672, 669, 666, 663],
   [660, 657, 654, 651, 648, 645, 642, 639, 636, 633, 630, 627, 623, 620, 617, 614],
   [611, 608, 605, 602, 599, 596, 593, 590, 586, 583, 580, 577, 574, 571, 568, 565],
   [562, 558, 555, 552, 549, 546, 543, 540, 537, 533, 530, 527, 524, 521, 518, 515]]

/-- `SINE_LUT[512..767]` (R261). -/
def sineRowsC : List (List Nat) :=
  [[512, 508, 505, 502, 499, 496, 493, 490, 486, 483, 480, 477, 474, 471, 468, 465],
   [461, 458, 455, 452, 449, 446, 443, 440, 437, 433, 430, 427, 424, 421, 418, 415],
   [412, 409, 406, 403, 400, 396, 393, 390, 387, 384, 381, 378, 375, 372, 369, 366],
   [363, 360, 357, 354, 351, 348, 345, 342, 339, 336, 333, 331, 328, 325, 322, 319],
   [316, 313, 310, 307, 304, 302, 299, 296, 293, 290, 287, 285, 282, 279, 276, 273],
   [271, 268, 265, 262, 260, 257, 254, 251, 249, 246, 243, 241, 238, 235, 233, 230],
   [228, 225, 222, 220, 217, 215, 212, 210, 207, 205, 202, 200, 197, 195, 192, 190],
   [187, 185, 183, 180, 178, 175, 173, 171, 168, 166, 164, 161, 159, 157, 155, 152],
   [150, 148, 146, 144, 141, 139, 137, 135, 133, 131, 129, 127, 125, 123, 120, 118],
   [116, 115, 113, 111, 109, 107, 105, 103, 101, 99, 97, 96, 94, 92, 90, 88],
   [87, 85, 83, 81, 80, 78, 76, 75, 73, 72, 70, 68, 67, 65, 64, 62],
   [61, 59, 58, 56, 55, 54, 52, 51, 50, 48, 47, 46, 44, 43, 42, 41],
   [39, 38, 37, 36, 35, 34, 33, 31, 30, 29, 28, 27, 26, 25, 24, 23],
   [23, 22, 21, 20, 19, 18, 17, 17, 16, 15, 14, 14, 13, 12, 12, 11],
   [10, 10, 9, 9, 8, 7, 7, 7, 6, 6, 5, 5, 4, 4, 4, 3],
   [3, 3, 2, 2, 2, 2, 1, 1, 1, 1, 1, 1, 1, 1, 1, 1]]

/-- `SINE_LUT[768..1023]` (R261). -/
def sineRowsD : List (List Nat) :=
  [[1, 1, 1, 1, 1, 1, 1, 1, 1, 1, 1, 2, 2, 2, 2, 3],
   [3, 3, 4, 4, 4, 5, 5, 6, 6, 7, 7, 7, 8, 9, 9, 10],
   [10, 11, 12, 12, 13, 14, 14, 15, 16, 17, 17, 18, 19, 20, 21, 22],
   [23, 23, 24, 25, 26, 27, 28, 29, 30, 31, 33, 34, 35, 36, 37, 38],
   [39, 41, 42, 43, 44, 46, 47, 48, 50, 51, 52, 54, 55, 56, 58, 59],
   [61, 62, 64, 65, 67, 68, 70, 72, 73, 75, 76, 78, 80, 81, 83, 85],
   [87, 88, 90, 92, 94, 96, 97, 99, 101, 103, 105, 107, 109, 111, 113, 115],
   [116, 118, 120, 123, 125, 127, 129, 131, 133, 135, 137, 139, 141, 144, 146, 148],
   [150, 152, 155, 157, 159, 161, 164, 166, 168, 171, 173, 175, 178, 180, 183, 185],
   [187, 190, 192, 195, 197, 200, 202, 205, 207, 210, 212, 215, 217, 220, 222, 225],
   [228, 230, 233, 235, 238, 241, 243, 246, 249, 251, 254, 257, 260, 262, 265, 268],
   [271, 273, 276, 279, 282, 285, 287, 290, 293, 296, 299, 302, 304, 307, 310, 313],
   [316, 319, 322, 325, 328, 331, 333, 336, 339, 342, 345, 348, 351, 354, 357, 360],
   [363, 366, 369, 372, 375, 378, 381, 384, 387, 390, 393, 396, 400, 403, 406, 409],
   [412, 415, 418, 421, 424, 427, 430, 433, 437, 440, 443, 446, 449, 452, 455, 458],
   [461, 465, 468, 471, 474, 477, 480, 483, 486, 490, 493, 496, 499, 502, 505, 508]]

/-- `SINE_LUT`, 64 rows of 16 entries (R261). -/
def sineRows : List (List Nat) := sineRowsA ++ (sineRowsB ++ (sineRowsC ++ sineRowsD))

/-- `GAIN_LUT`, 16 rows of 16 entries (R262). -/
def gainRows : List (List Nat) :=
  [[0, 1, 1, 1, 1, 1, 1, 1, 1, 1, 1, 1, 1, 1, 1, 2],
   [2, 2, 2, 2, 2, 2, 2, 2, 2, 3, 3, 3, 3, 3, 3, 4],
   [4, 4, 4, 4, 4, 5, 5, 5, 5, 6, 6, 6, 7, 7, 7, 8],
   [8, 8, 9, 9, 9, 10, 10, 11, 11, 12, 12, 13, 14, 14, 15, 16],
   [16, 17, 18, 19, 19, 20, 21, 22, 23, 24, 25, 26, 28, 29, 30, 32],
   [33, 34, 36, 38, 39, 41, 43, 45, 47, 49, 51, 53, 56, 58, 61, 64],
   [66, 69, 72, 76, 79, 82, 86, 90, 94, 98, 103, 107, 112, 117, 122, 128],
   [133, 139, 145, 152, 158, 165, 173, 181, 189, 197, 206, 215, 224, 234, 245, 256],
   [267, 279, 291, 304, 317, 331, 346, 362, 378, 394, 412, 430, 449, 469, 490, 512],
   [534, 558, 583, 608, 635, 663, 693, 724, 756, 789, 824, 861, 899, 939, 980, 1024],
   [1069, 1116, 1166, 1217, 1271, 1327, 1386, 1448, 1512, 1579, 1649, 1722, 1798, 1878, 1961, 2048],
   [2138, 2233, 2332, 2435, 2543, 2655, 2773, 2896, 3024, 3158, 3298, 3444, 3596, 3756, 3922, 4096],
   [4277, 4466, 4664, 4870, 5086, 5311, 5547, 5792, 6049, 6316, 6596, 6888, 7193, 7512, 7844, 8192],
   [8554, 8933, 9328, 9741, 10173, 10623, 11094, 11585, 12098, 12633, 13193, 13777, 14387, 15024, 15689, 16384],
   [17109, 17866, 18657, 19483, 20346, 21247, 22188, 23170, 24196, 25267, 26386, 27554, 28774, 30048, 31378, 32768],
   [34218, 35733, 37315, 38967, 40693, 42494, 44376, 46340, 48392, 50535, 52772, 55108, 57548, 60096, 62757, 65536]]

/-- Entry `n` of a table listed in rows of sixteen. -/
def rowEntry (rows : List (List Nat)) (n : Nat) : Nat := (rows.getD (n / 16) []).getD (n % 16) 0

/-- `SINE_LUT[n]` of a configuration (R112, R261; `P_SINE_LUT` of R6). -/
def sineAt (c : Config) (n : Wave) : Wave :=
  match c.sineLut with
  | .listed => BitVec.ofNat 10 (rowEntry sineRows n.toNat)
  | .entries l => l.getD n.toNat 0#10

/-- `GAIN_LUT[v]` of a configuration (R230, R262; `P_GAIN_LUT` of R6). -/
def gainAt (c : Config) (v : Vol) : Gain :=
  match c.gainLut with
  | .listed => BitVec.ofNat 17 (rowEntry gainRows v.toNat)
  | .entries l => l.getD v.toNat 0#17

end Sys2Proof.Machine
end

