-- ==== Sys2Proof/WellFormed.lean ====
section
/-! DEFINITION. Which instructions a configuration has: the conditions of R83 and of spec/opcode_table.json. -/

namespace Sys2Proof

/-- DAC channel `k` exists: `k < P_NUM_DAC` (R83). -/
def Config.hasDac (c : Config) (k : Fin 3) : Bool := decide (k.val < c.numDac.num)

/-- Phase-reset timer `t` exists: `t < P_NUM_PRT` (R83). -/
def Config.hasPrt (c : Config) (t : Nat) : Bool := decide (t < c.numPrt.num)

/-- The unit an instruction addresses exists (R83); the DDS and noise units always do. -/
def Instr.wellFormed (c : Config) : Instr → Bool
  | .ddsFreq _ _ => true
  | .ddsWave _ _ => true
  | .ddsPw _ _ => true
  | .ddsVol _ _ => true
  | .ddsZcen _ _ => true
  | .nzFreq _ => true
  | .nzClk _ => true
  | .nzSeed _ => true
  | .nzVol _ => true
  | .nzZcen _ => true
  | .dacFwd k _ _ => c.hasDac k
  | .prtFreq t _ => c.hasPrt t.val
  | .prtMask t _ => c.hasPrt t.val
  | .prtEn t _ => c.hasPrt t.val

end Sys2Proof
end

