-- ==== Sys2Proof/Machine/Ops.lean ====
section
/-! DEFINITION. The named operations over the registers: the updates of State, the volume and zero-cross operations that
the DDS and noise channels share (45_volume_mix.md), and the sequencing of steps that may refuse. The block has no memory
(R60), takes no exception and returns from none (R270, R275), so there is no operation for these. -/

namespace Sys2Proof.Machine

/-! ### Updates of State -/

/-- Change DDS channel `i`. -/
def State.modifyDds (s : State) (i : Fin 4) (f : DdsChannel → DdsChannel) : State :=
  { s with dds := s.dds.set i (f s.dds[i]) }

/-- Change every DDS channel. -/
def State.mapDds (s : State) (f : Fin 4 → DdsChannel → DdsChannel) : State :=
  { s with dds := Vector.ofFn fun i => f i s.dds[i] }

/-- Change the noise channel. -/
def State.modifyNz (s : State) (f : NoiseChannel → NoiseChannel) : State :=
  { s with nz := f s.nz }

/-- Change every timer that the configuration has (log 3). -/
def State.mapPrt (s : State) (f : Fin 5 → PhaseTimer → PhaseTimer) : State :=
  { s with prt := Vector.ofFn fun t => if s.cfg.hasPrt t.val then f t s.prt[t] else s.prt[t] }

/-- Change phase-reset timer `t`; nothing where the configuration has no such timer (R170; log 13). -/
def State.modifyPrt (s : State) (t : Fin 8) (f : PhaseTimer → PhaseTimer) : State :=
  s.mapPrt fun u p => if u.val = t.val then f p else p

/-- Replace the queue. -/
def State.withQueue (s : State) (q : List Command) : State := { s with queue := q }

/-- Replace the overflow bit. -/
def State.withOvf (s : State) (b : Bool) : State := { s with qOvf := b }

/-- Replace the mute flags. -/
def State.withMute (s : State) (m : Vector Bool 8) : State := { s with mute := m }

/-- Replace the output registers. -/
def State.withOutputs (s : State) (y : Vector Sample 8) (master : Sample) : State :=
  { s with y := y, master := master }

/-- Record a call to the DAC port (R205; log 4). -/
def State.callDac (s : State) (c : DacCall) : State := { s with dacCalls := c :: s.dacCalls }

/-- Move the sequencer to a phase (R201). -/
def State.withPhase (s : State) (p : SeqPhase) : State := { s with phase := p }

/-- Replace the host operations still to be taken (log 7). -/
def State.withHostOps (s : State) (ops : List HostOp) : State := { s with hostOps := ops }

/-- Replace the `ClockAndMix` in progress (log 9). -/
def State.withClock (s : State) (j : Option ClockJob) : State := { s with clock := j }

/-- Record what a host operation returns (log 8). -/
def State.answer (s : State) (r : HostReturn) : State := { s with returns := r :: s.returns }

/-! ### The volume path -/

/-- Set or defer the volume code (R103, R143). -/
def writeVolume (v : Vol) (c : VolumePath) : VolumePath :=
  if c.zcen then { c with pvol := v, pvalid := true } else { c with vol := v }

/-- Turn zero-cross deferral on or off; turning it off commits a pending code (R104, R144). -/
def writeDeferral (b : Bool) (c : VolumePath) : VolumePath :=
  if !b && c.pvalid then { c with vol := c.pvol, pvalid := false, zcen := b } else { c with zcen := b }

/-- `ZcUpdate` (R234): the zero-cross gate on the waveform value just computed. -/
def zcUpdate (cfg : Config) (c : VolumePath) : VolumePath :=
  if outsideWindow cfg c.w then { c with armed := true }
  else if c.armed then
    if c.pvalid then { c with armed := false, vol := c.pvol, pvalid := false } else { c with armed := false }
  else c

/-- `ResetVol` (R291): the volume code a reset leaves. -/
def resetVolume (cfg : Config) (c : VolumePath) : Vol :=
  if cfg.resetAppliesPending && c.pvalid then c.pvol else 255#8

/-- `Atten` (R232): the waveform value times the gain of the active volume code, shifted right by 16. -/
def attenuate (cfg : Config) (c : VolumePath) : Wave :=
  BitVec.ofNat 10 ((c.w.toNat * (gainAt cfg c.vol).toNat) >>> 16)

/-- Change the volume path of a DDS channel. -/
def DdsChannel.modifyPath (d : DdsChannel) (f : VolumePath → VolumePath) : DdsChannel :=
  { d with toVolumePath := f d.toVolumePath }

/-- Change the volume path of the noise channel. -/
def NoiseChannel.modifyPath (n : NoiseChannel) (f : VolumePath → VolumePath) : NoiseChannel :=
  { n with toVolumePath := f n.toVolumePath }

/-! ### Sequencing -/

/-- Go on from an outcome that has a next state. -/
def andThen (o : Out) (f : State → Out) : Out :=
  match o with
  | .next s => f s
  | .fault r => .fault r
  | .refused r => .refused r

/-- Do `f` `n` times, stopping where it has no next state. -/
def repeatOut : Nat → (State → Out) → State → Out
  | 0, _, s => .next s
  | n + 1, f, s => andThen (f s) (repeatOut n f)

/-- Do `f` `n` times. -/
def repeatState : Nat → (State → State) → State → State
  | 0, _, s => s
  | n + 1, f, s => repeatState n f (f s)

end Sys2Proof.Machine
end

