-- ==== Sys2Proof/Machine/Dac.lean ====
section
/-! DEFINITION. The DAC port (R205): the forwarded command, the strobes, and the answer read at the mix. -/

namespace Sys2Proof.Machine

/-- DAC.FWD (R205): `DacWrite(k, cmd, v)`; nothing where the configuration has no such DAC channel (R83; log 13). -/
def execDacFwd (k : Fin 3) (cmd : CmdType) (value : Value) (s : State) : Out :=
  .next (if s.cfg.hasDac k then s.callDac (.write k cmd value) else s)

/-- `DacPhaseReset(k)` if `P` selects DAC channel `k` and it exists (R176, R177). -/
def dacStrobe (P : Mask) (s : State) (k : Fin 3) : State :=
  if s.cfg.hasDac k && P.getLsbD (5 + k.val) then s.callDac (.phaseReset k) else s

/-- The strobes of R176, in the order of the channels. -/
def dacStrobes (P : Mask) (s : State) : State := dacStrobe P (dacStrobe P (dacStrobe P s 0) 1) 2

/-- `dac_out[k]` (R205): a free value of the calls made, or the constant a test port answers (log 4, log 5). -/
def dacOut (s : State) (k : Fin 3) : DacOut :=
  match s.cfg.dacPort with
  | .outside => Config.dacFree s.dacCalls k
  | .constant answers => answers[k]

/-- `DacTerm` (R240): centred on 2047 and shifted right by 2, rounding toward minus infinity. -/
def dacTerm (d : DacOut) : Int := ((d.toNat : Int) - 2047) >>> 2

end Sys2Proof.Machine
end

