-- ==== Sys2Proof/Machine/Dds.lean ====
section
/-! DEFINITION. The DDS commands (R100 to R104) and the DDS clock step (R110 to R117). -/

namespace Sys2Proof.Machine

/-- DDS.FREQ (R100). -/
def execDdsFreq (i : Fin 4) (value : Value) (s : State) : Out :=
  .next (s.modifyDds i fun d => { d with freq := freqField value })

/-- DDS.WAVE (R101): a value above 5 changes nothing. -/
def execDdsWave (i : Fin 4) (value : Value) (s : State) : Out :=
  match waveformOfCode value.toNat with
  | some wf => .next (s.modifyDds i fun d => { d with wave := wf })
  | none => .next s

/-- DDS.PW (R102). -/
def execDdsPw (i : Fin 4) (value : Value) (s : State) : Out :=
  .next (s.modifyDds i fun d => { d with pw := pwField value })

/-- DDS.VOL (R103). -/
def execDdsVol (i : Fin 4) (value : Value) (s : State) : Out :=
  .next (s.modifyDds i fun d => d.modifyPath (writeVolume (volField value)))

/-- DDS.ZCEN (R104). -/
def execDdsZcen (i : Fin 4) (value : Value) (s : State) : Out :=
  .next (s.modifyDds i fun d => d.modifyPath (writeDeferral (bitField value)))

/-- The triangle of R113 from the top eleven phase bits. -/
def triangleAt (acc : Phase28) : Wave :=
  let p : BitVec 11 := acc.extractLsb' 17 11
  if p.getLsbD 10 then 1023#10 - p.extractLsb' 0 10 else p.extractLsb' 0 10

/-- `WaveMux` (R111): sine R112, triangle R113, squares R114 and R115, PWM R116, none R117. -/
def waveMux (cfg : Config) (d : DdsChannel) : Wave :=
  match d.wave with
  | .none => 0#10
  | .sine => sineAt cfg (d.acc.extractLsb' 18 10)
  | .triangle => triangleAt d.acc
  | .squareFull => if d.acc.getLsbD 27 then 0#10 else 1023#10
  | .squareHalf => if d.acc.getLsbD 27 then 0#10 else 511#10
  | .pwm => if (d.tacc.extractLsb' 18 10).toNat < d.pw.toNat then 1023#10 else 0#10

/-- The advance of R110: PWM advances `tacc`, every other waveform `acc`. -/
def ddsAdvance (d : DdsChannel) : DdsChannel :=
  if d.wave = .pwm then { d with tacc := d.tacc + d.freq } else { d with acc := d.acc + d.freq }

/-- `DdsStep` (R110): advance, waveform value, zero-cross gate. -/
def ddsStep (cfg : Config) (d : DdsChannel) : DdsChannel :=
  let a := ddsAdvance d
  a.modifyPath fun c => zcUpdate cfg { c with w := waveMux cfg a }

/-- The phase reset of a DDS channel: both accumulators to 0 (R176). -/
def ddsPhaseReset (d : DdsChannel) : DdsChannel := { d with acc := 0#28, tacc := 0#28 }

end Sys2Proof.Machine
end

