-- ==== Sys2Proof/Machine/Noise.lean ====
section
/-! DEFINITION. The noise commands (R140 to R144) and the noise clock step (R150). -/

namespace Sys2Proof.Machine

/-- NZ.FREQ (R140): ignored in internal-clock mode. -/
def execNzFreq (value : Value) (s : State) : Out :=
  .next (if s.nz.intclk then s else s.modifyNz fun n => { n with freq := value })

/-- NZ.CLK (R141). -/
def execNzClk (value : Value) (s : State) : Out :=
  .next (s.modifyNz fun n => { n with intclk := bitField value })

/-- NZ.SEED (R142). -/
def execNzSeed (value : Value) (s : State) : Out :=
  .next (s.modifyNz fun n => { n with reload := seedField value, lfsr := seedField value })

/-- NZ.VOL (R143). -/
def execNzVol (value : Value) (s : State) : Out :=
  .next (s.modifyNz fun n => n.modifyPath (writeVolume (volField value)))

/-- NZ.ZCEN (R144). -/
def execNzZcen (value : Value) (s : State) : Out :=
  .next (s.modifyNz fun n => n.modifyPath (writeDeferral (bitField value)))

/-- The increment of the noise timer (R150, R153). -/
def noiseIncrement (cfg : Config) (n : NoiseChannel) : Timer :=
  if n.intclk then cfg.noiseIntInc else n.freq

/-- The timer and shift of R150; between overflows the register and the level hold. -/
def noiseAdvance (cfg : Config) (n : NoiseChannel) : NoiseChannel :=
  let inc := noiseIncrement cfg n
  let m := { n with acc := n.acc + inc }
  if timerCarry n.acc inc then { m with lfsr := lfsrShift n.lfsr, w := lfsrLevel (lfsrShift n.lfsr) } else m

/-- `NoiseStep` (R150): timer, shift, zero-cross gate. -/
def noiseStep (cfg : Config) (n : NoiseChannel) : NoiseChannel :=
  (noiseAdvance cfg n).modifyPath (zcUpdate cfg)

/-- The phase reset of the noise channel: the register takes the reload value (R176). -/
def noisePhaseReset (n : NoiseChannel) : NoiseChannel := { n with lfsr := n.reload }

end Sys2Proof.Machine
end

