-- ==== Sys2Proof/Machine/Timers.lean ====
section
/-! DEFINITION. The phase-reset timer commands (R170 to R172) and the timers' clock step (R175). -/

namespace Sys2Proof.Machine

/-- PRT.FREQ (R170). -/
def execPrtFreq (t : Fin 8) (value : Value) (s : State) : Out :=
  .next (s.modifyPrt t fun p => { p with freq := value })

/-- PRT.MASK (R171). -/
def execPrtMask (t : Fin 8) (value : Value) (s : State) : Out :=
  .next (s.modifyPrt t fun p => { p with mask := maskField value })

/-- PRT.EN (R172). -/
def execPrtEn (t : Fin 8) (value : Value) (s : State) : Out :=
  .next (s.modifyPrt t fun p => { p with en := bitField value })

/-- An enabled timer advances; a disabled one holds (R175). -/
def timerAdvance (p : PhaseTimer) : PhaseTimer :=
  if p.en then { p with acc := p.acc + p.freq } else p

/-- The timer fires in this internal step (R175). -/
def timerFires (p : PhaseTimer) : Bool := p.en && timerCarry p.acc p.freq

/-- The mask a timer adds to the pulse set in this internal step (R175). -/
def timerPulse (s : State) (t : Fin 5) : Mask :=
  if s.cfg.hasPrt t.val && timerFires s.prt[t] then s.prt[t].mask else 0#8

/-- The pulse set `P` of R175: the masks of the timers that fire, combined (R178). -/
def pulseSet (s : State) : Mask :=
  timerPulse s 0 ||| timerPulse s 1 ||| timerPulse s 2 ||| timerPulse s 3 ||| timerPulse s 4

/-- The timers' part of `PrtStep` (R175). -/
def advanceTimers (s : State) : State := s.mapPrt fun _ p => timerAdvance p

end Sys2Proof.Machine
end

