-- ==== Sys2Proof/Machine/Clock.lean ====
section
/-! DEFINITION. One internal step (R210) and the mix (R238 to R240). -/

namespace Sys2Proof.Machine

/-- `ApplyPhaseReset(P)` (R176). -/
def applyPhaseReset (P : Mask) (s : State) : State :=
  let d := s.mapDds fun i c => if P.getLsbD i.val then ddsPhaseReset c else c
  let n := d.modifyNz fun c => if P.getLsbD 4 then noisePhaseReset c else c
  dacStrobes P n

/-- The channels' part of an internal step: DDS 0 to 3, noise, DAC (R210). -/
def stepChannels (s : State) : State :=
  ((s.mapDds fun _ d => ddsStep s.cfg d).modifyNz (noiseStep s.cfg)).callDac .step

/-- `InternalStep` (R210): timers, phase resets, channels. -/
def internalStep (s : State) : State :=
  stepChannels (applyPhaseReset (pulseSet s) (advanceTimers s))

/-- The output of channel `ch` before muting: `Atten` of a DDS or the noise channel (R232), `DacTerm` of a DAC channel
(R240), as an Int16 (R35). -/
def channelOutput (s : State) (ch : Fin 8) : Sample :=
  if h : ch.val < 4 then (attenuate s.cfg (s.dds[ch.val]).toVolumePath).setWidth 16
  else if ch.val = 4 then (attenuate s.cfg s.nz.toVolumePath).setWidth 16
  else BitVec.ofInt 16 (dacTerm (dacOut s (Fin.ofNat 3 (ch.val - 5))))

/-- Channel `ch` exists: `ch < NUM_CH` (R12). -/
def State.hasCh (s : State) (ch : Nat) : Bool := decide (ch < s.cfg.numCh)

/-- The outputs of the mix: 0 for a muted channel; a place with no channel keeps what it holds (R238; log 3). -/
def mixOutputs (s : State) : Vector Sample 8 :=
  Vector.ofFn fun ch =>
    if s.hasCh ch.val then (if s.mute[ch] then 0#16 else channelOutput s ch) else s.y[ch]

/-- The exact sum of the first `n` outputs (R239). -/
def sumOutputs (n : Nat) (y : Vector Sample 8) : Int := ((y.toList.take n).map BitVec.toInt).sum

/-- `Mix` (R238, R239). -/
def mix (s : State) : State :=
  s.withOutputs (mixOutputs s) (BitVec.ofInt 16 (sumOutputs s.cfg.numCh (mixOutputs s)))

end Sys2Proof.Machine
end

