-- ==== Sys2Proof/Machine/HostOps.lean ====
section
/-! DEFINITION. The host operations that are not ticks: `Enqueue` (R190, R191), `QueueStatus` (R192), `SetMuted` (R217)
and `Reset` (R290 to R292). -/

namespace Sys2Proof.Machine

/-- `Enqueue` (R190): append, or drop the new write and set `q_ovf` when the queue is full (R191). -/
def enqueue (m : Command) (s : State) : State :=
  if s.queue.length < s.cfg.queueDepth then (s.withQueue (s.queue ++ [m])).answer (.accepted true)
  else (s.withOvf true).answer (.accepted false)

/-- `QueueStatus` (R192). -/
def queueStatus (s : State) : State := s.answer (.status s.queue.length s.qOvf)

/-- `SetMuted` (R217). -/
def setMuted (ch : Fin 8) (m : Bool) (s : State) : State := (s.withMute (s.mute.set ch m)).answer .done

/-- The mute flags after `Reset(p)`: kept when `p` = 1, cleared when `p` = 0 (R290). -/
def resetMute (preserve : Bool) (s : State) : Vector Bool 8 :=
  if preserve then s.mute else Vector.ofFn fun ch => if s.hasCh ch.val then false else s.mute[ch]

/-- The outputs after a reset (R290). -/
def resetOutputs (s : State) : Vector Sample 8 :=
  Vector.ofFn fun ch => if s.hasCh ch.val then 0#16 else s.y[ch]

/-- The channels and timers after a reset (R290, R291). -/
def resetUnits (s : State) : State :=
  ((s.mapDds fun _ d => DdsChannel.cleared (resetVolume s.cfg d.toVolumePath)).modifyNz fun n =>
    NoiseChannel.cleared (resetVolume s.cfg n.toVolumePath)).mapPrt fun _ _ => PhaseTimer.cleared

/-- `Reset(p)` (R290); the queue and `q_ovf` are not changed (R292). -/
def resetBlock (preserve : Bool) (s : State) : State :=
  (((resetUnits s).withMute (resetMute preserve s)).withOutputs (resetOutputs s) 0#16).callDac (.reset preserve)

end Sys2Proof.Machine
end

