-- ==== Sys2Proof/Decode.lean ====
section
/-! DEFINITION. Decoding of commands (R80 to R90), total on every address and value, and the encoder written from the same
tables (R85, R92, R94). -/

namespace Sys2Proof

/-- Why an address selects nothing (R83, R84, R90). -/
inductive Reserved where
  /-- A DDS command type above 4 (R84: 0x05-0x0F and alike). -/
  | ddsCommandType
  /-- A noise command type above 4 (R84: 0x45-0x4F). -/
  | noiseCommandType
  /-- A DAC channel `k ≥ P_NUM_DAC` (R83). -/
  | absentDac
  /-- A phase-reset timer `t ≥ P_NUM_PRT` (R83). -/
  | absentTimer
  /-- A timer command type above 2 (R84: 0x83-0x8F and alike). -/
  | timerCommandType
deriving DecidableEq, Repr

/-- What `Decode` answers (R89): a command, or Ignored. -/
inductive Decoded where
  | instr (i : Instr)
  | ignored (why : Reserved)
deriving DecidableEq, Repr

/-- `CH = addr[7:4]` (R81). -/
def addrCh (a : Addr) : BitVec 4 := a.extractLsb' 4 4

/-- `CMD = addr[3:0]` (R81). -/
def addrCmd (a : Addr) : CmdType := a.extractLsb' 0 4

/-- The command types of a DDS channel (R85). -/
def decodeDds (i : Fin 4) (cmd : CmdType) (v : Value) : Decoded :=
  match cmd.toNat with
  | 0 => .instr (.ddsFreq i v)
  | 1 => .instr (.ddsWave i v)
  | 2 => .instr (.ddsPw i v)
  | 3 => .instr (.ddsVol i v)
  | 4 => .instr (.ddsZcen i v)
  | _ => .ignored .ddsCommandType

/-- The command types of the noise channel (R85). -/
def decodeNoise (cmd : CmdType) (v : Value) : Decoded :=
  match cmd.toNat with
  | 0 => .instr (.nzFreq v)
  | 1 => .instr (.nzClk v)
  | 2 => .instr (.nzSeed v)
  | 3 => .instr (.nzVol v)
  | 4 => .instr (.nzZcen v)
  | _ => .ignored .noiseCommandType

/-- The command types of a phase-reset timer (R85). -/
def decodePrt (t : Fin 8) (cmd : CmdType) (v : Value) : Decoded :=
  match cmd.toNat with
  | 0 => .instr (.prtFreq t v)
  | 1 => .instr (.prtMask t v)
  | 2 => .instr (.prtEn t v)
  | _ => .ignored .timerCommandType

/-- `Decode` (R89) with the command types of R85: total on every command. -/
def decode (c : Config) (m : Command) : Decoded :=
  let ch := (addrCh m.addr).toNat
  let cmd := addrCmd m.addr
  if ch ≤ 3 then decodeDds (Fin.ofNat 4 ch) cmd m.value
  else if ch = 4 then decodeNoise cmd m.value
  else if ch ≤ 7 then
    let k := Fin.ofNat 3 (ch - 5)
    if c.hasDac k then .instr (.dacFwd k cmd m.value) else .ignored .absentDac
  else
    let t := Fin.ofNat 8 (ch - 8)
    if c.hasPrt t.val then decodePrt t cmd m.value else .ignored .absentTimer

/-- The instruction a decoding gives, if any. -/
def Decoded.instr? : Decoded → Option Instr
  | .instr i => some i
  | .ignored _ => none

/-- The 40-bit word of a command: `W[39:32] = addr`, `W[31:0] = value` (R80). -/
def Command.toWord (m : Command) : BitVec 40 := m.addr ++ m.value

/-- The command of a 40-bit word (R80). -/
def Command.ofWord (w : BitVec 40) : Command := ⟨w.extractLsb' 32 8, w.extractLsb' 0 32⟩

/-- The address of channel index `ch` and command type `cmd` (R81, R92). -/
def addrMake (ch : BitVec 4) (cmd : CmdType) : Addr := ch ++ cmd

/-- The command that spells an instruction (R85, R92). -/
def encode : Instr → Command
  | .ddsFreq i v => ⟨addrMake (BitVec.ofNat 4 i.val) 0#4, v⟩
  | .ddsWave i v => ⟨addrMake (BitVec.ofNat 4 i.val) 1#4, v⟩
  | .ddsPw i v => ⟨addrMake (BitVec.ofNat 4 i.val) 2#4, v⟩
  | .ddsVol i v => ⟨addrMake (BitVec.ofNat 4 i.val) 3#4, v⟩
  | .ddsZcen i v => ⟨addrMake (BitVec.ofNat 4 i.val) 4#4, v⟩
  | .nzFreq v => ⟨addrMake 4#4 0#4, v⟩
  | .nzClk v => ⟨addrMake 4#4 1#4, v⟩
  | .nzSeed v => ⟨addrMake 4#4 2#4, v⟩
  | .nzVol v => ⟨addrMake 4#4 3#4, v⟩
  | .nzZcen v => ⟨addrMake 4#4 4#4, v⟩
  | .dacFwd k cmd v => ⟨addrMake (BitVec.ofNat 4 (5 + k.val)) cmd, v⟩
  | .prtFreq t v => ⟨addrMake (BitVec.ofNat 4 (8 + t.val)) 0#4, v⟩
  | .prtMask t v => ⟨addrMake (BitVec.ofNat 4 (8 + t.val)) 1#4, v⟩
  | .prtEn t v => ⟨addrMake (BitVec.ofNat 4 (8 + t.val)) 2#4, v⟩

/-- The commands a pseudo-instruction expands to, in queue order (R94). -/
def Pseudo.expand : Pseudo → List Command
  | .nop => [⟨0x0F#8, 0#32⟩]
  | .ddsTone i f w v => [encode (.ddsFreq i f), encode (.ddsWave i w), encode (.ddsVol i v)]
  | .ddsSilence i => [encode (.ddsVol i 0#32)]
  | .nzInit seed f => [encode (.nzSeed seed), encode (.nzClk 0#32), encode (.nzFreq f)]
  | .prtSync t f mask => [encode (.prtFreq t f), encode (.prtMask t mask), encode (.prtEn t 1#32)]
  | .prtStop t => [encode (.prtEn t 0#32)]

/-- The command whose bits are `w`, numbered as spec/opcode_table.json numbers them: bits 7..0 are the address, the value
counts on from bit 8, and every bit from `nbits` up is 0 (DESIGN CHOICE, log 11). -/
def commandOfTableWord (nbits w : Nat) : Command :=
  let v := w % 2 ^ nbits
  ⟨BitVec.ofNat 8 v, BitVec.ofNat 32 (v / 2 ^ 8)⟩

/-- The instruction the decoder reads, in the default configuration, from an instruction whose bits are `w` as
spec/opcode_table.json numbers them (log 11). -/
def decodeTableWord (nbits w : Nat) : Option Instr :=
  (decode Config.default (commandOfTableWord nbits w)).instr?

end Sys2Proof
end

