-- ==== Sys2Proof/Machine/Dispatch.lean ====
section
/-! DEFINITION. `Dispatch`'s commands (R200): one arm per instruction. -/

namespace Sys2Proof.Machine

def exec (i : Instr) (s : State) : Host.Outcome State Fault Refusal :=
  match i with
  | .ddsFreq n value => Sys2Proof.Machine.execDdsFreq n value s
  | .ddsWave n value => Sys2Proof.Machine.execDdsWave n value s
  | .ddsPw n value => Sys2Proof.Machine.execDdsPw n value s
  | .ddsVol n value => Sys2Proof.Machine.execDdsVol n value s
  | .ddsZcen n value => Sys2Proof.Machine.execDdsZcen n value s
  | .nzFreq value => Sys2Proof.Machine.execNzFreq value s
  | .nzClk value => Sys2Proof.Machine.execNzClk value s
  | .nzSeed value => Sys2Proof.Machine.execNzSeed value s
  | .nzVol value => Sys2Proof.Machine.execNzVol value s
  | .nzZcen value => Sys2Proof.Machine.execNzZcen value s
  | .dacFwd k cmd value => Sys2Proof.Machine.execDacFwd k cmd value s
  | .prtFreq t value => Sys2Proof.Machine.execPrtFreq t value s
  | .prtMask t value => Sys2Proof.Machine.execPrtMask t value s
  | .prtEn t value => Sys2Proof.Machine.execPrtEn t value s

end Sys2Proof.Machine
end

