-- ==== Sys2Proof/Machine/Tick.lean ====
section
/-! DEFINITION. Drain slots and the tick as one operation (R195, R196, R200, R213). The machine's step walks the same
sequence phase by phase (Sequencer.lean); `tick` is the atomic form of R9. -/

namespace Sys2Proof.Machine

/-- `Dispatch` (R200): decode and apply one command, or nothing (R90). -/
def dispatch (m : Command) (s : State) : Out :=
  match decode s.cfg m with
  | .instr i => exec i s
  | .ignored _ => .next s

/-- `DrainSlot` (R195): pop the head of the queue, if any, and dispatch it. -/
def drainSlot (s : State) : Out :=
  match s.queue with
  | [] => .next s
  | m :: rest => dispatch m (s.withQueue rest)

/-- The `P_DRAIN` drain slots of a tick (R196). -/
def drainAll (s : State) : Out := repeatOut s.cfg.drain drainSlot s

/-- The `P_STEPS` internal steps of a tick (R212). -/
def stepAll (s : State) : State := repeatState s.cfg.steps internalStep s

/-- `Tick` (R213): drains, internal steps, mix. -/
def tick (s : State) : Out := andThen (drainAll s) fun t => .next (mix (stepAll t))

/-- The outputs `y` as the host sees them, one for each channel (R35, R213). -/
def State.outputs (s : State) : List Sample := s.y.toList.take s.cfg.numCh

end Sys2Proof.Machine
end

