-- ==== Sys2Proof/Machine/Sequencer.lean ====
section
/-! DEFINITION. The tick sequencer (R201): what one phase does and which phase follows. Host operations are taken in IDLE
only, so none sees a tick half done (R9, R69; log 6, log 7). -/

namespace Sys2Proof.Machine

/-- The phase after `DRAIN(j)` (R201). -/
def afterDrain (c : Config) (j : Nat) : SeqPhase := if j + 1 < c.drain then .drain (j + 1) else .step 0

/-- The phase after `STEP(n)` (R201). -/
def afterStep (c : Config) (n : Nat) : SeqPhase := if n + 1 < c.steps then .step (n + 1) else .mix

/-- Hand over the sample of the tick just mixed: to the `ClockAndMix` in progress, or to the host (R213, R214). -/
def deliver (s : State) : State :=
  match s.clock with
  | none => s.answer (.sample s.master s.outputs)
  | some j => s.withClock (some { j with master := j.master ++ [s.master], y := j.y ++ [s.outputs] })

/-- The per-channel buffers of a finished `ClockAndMix`: for each channel its values in tick order (R214). -/
def channelBuffers (c : Config) (y : List (List Sample)) : List (List Sample) :=
  (List.range c.numCh).map fun ch => y.map fun ys => ys.getD ch 0#16

/-- A `ClockAndMix` goes on: one more tick, or its buffers are returned (R214). -/
def continueClock (j : ClockJob) (s : State) : State :=
  match j.remaining with
  | 0 => (s.withClock none).answer (.buffers j.master (channelBuffers s.cfg j.y))
  | n + 1 => (s.withClock (some { j with remaining := n })).withPhase (.drain 0)

/-- One host operation, taken in IDLE (R218); an operand outside its type is refused (R219). -/
def hostOp (op : HostOp) (s : State) : Out :=
  match op with
  | .enqueue a v =>
    if a < 2 ^ 8 ∧ v < 2 ^ 32 then .next (enqueue ⟨BitVec.ofNat 8 a, BitVec.ofNat 32 v⟩ s)
    else .refused (.enqueueOperand a v)
  | .queueStatus => .next (queueStatus s)
  | .tick => .next (s.withPhase (.drain 0))
  | .clockAndMix n =>
    if 0 ≤ n then .next (s.withClock (some ⟨n.toNat, [], []⟩)) else .refused (.clockAndMixCount n)
  | .setMuted ch m =>
    if ch < s.cfg.numCh ∧ m < 2 then .next (setMuted (Fin.ofNat 8 ch) (m == 1) s)
    else .refused (.setMutedOperand ch m)
  | .reset p => .next ((resetBlock p s).answer .done)

/-- IDLE (R201): go on with a `ClockAndMix`, else take the next host operation, else wait (R282). -/
def idleAction (s : State) : Out :=
  match s.clock with
  | some j => .next (continueClock j s)
  | none =>
    match s.hostOps with
    | [] => .next s
    | op :: rest => hostOp op (s.withHostOps rest)

/-- `DRAIN(j)` (R201). -/
def drainAction (j : Nat) (s : State) : Out := drainSlot (s.withPhase (afterDrain s.cfg j))

/-- `STEP(n)` (R201). -/
def stepAction (n : Nat) (s : State) : Out := .next (internalStep (s.withPhase (afterStep s.cfg n)))

/-- `MIX` (R201). -/
def mixAction (s : State) : Out := .next (deliver (mix (s.withPhase .idle)))

/-- One phase of the sequencer. -/
def sequence (s : State) : Out :=
  match s.phase with
  | .idle => idleAction s
  | .drain j => drainAction j s
  | .step n => stepAction n s
  | .mix => mixAction s

/-- The command at the place the next drain slot takes it from: the head of the queue, with the sequencer at a tick's first
drain slot (log 10). -/
def placeCommand (m : Command) (s : State) : State :=
  (s.withQueue (m :: s.queue.tail)).withPhase (.drain 0)

end Sys2Proof.Machine
end

