-- ==== Sys2Proof/Machine/Step.lean ====
section
/-! DEFINITION. The machine's step: one phase of the tick sequencer (R201). -/

namespace Sys2Proof.Machine

/-- One step of the machine (R201). -/
def step (s : State) : Host.Outcome State Fault Refusal := sequence s

/-- `s` with the instruction whose bits are `w` (numbered as spec/opcode_table.json numbers them, log 11) where the next
step takes its command (log 10). -/
def State.withFetchWord (s : State) (nbits w : Nat) : State := placeCommand (commandOfTableWord nbits w) s

end Sys2Proof.Machine
end

