-- ==== Sys2Proof/Machine/Events.lean ====
section
/-! DEFINITION. The event names of R272 for the error outcomes of R271, as functions of the state and the command. State
keeps no trace of them: the block records nothing of them but `q_ovf` (R272; log 18). -/

namespace Sys2Proof.Machine

/-- The events of R272. -/
inductive Event where
  | evQueueDrop
  | evSeedCoerced
  | evWaveIgnored
  | evAddrIgnored
  | evNzFreqIgnored
deriving DecidableEq, Repr

/-- The event of an instruction, if it is one of the cases of R271. -/
def instrEvent (s : State) : Instr → Option Event
  | .ddsFreq _ _ => none
  | .ddsWave _ v => if (waveformOfCode v.toNat).isNone then some .evWaveIgnored else none
  | .ddsPw _ _ => none
  | .ddsVol _ _ => none
  | .ddsZcen _ _ => none
  | .nzFreq _ => if s.nz.intclk then some .evNzFreqIgnored else none
  | .nzClk _ => none
  | .nzSeed v => if v.extractLsb' 0 23 = 0#23 then some .evSeedCoerced else none
  | .nzVol _ => none
  | .nzZcen _ => none
  | .dacFwd _ _ _ => none
  | .prtFreq _ _ => none
  | .prtMask _ _ => none
  | .prtEn _ _ => none

/-- The event of dispatching a command (R271). -/
def commandEvent (s : State) (m : Command) : Option Event :=
  match decode s.cfg m with
  | .instr i => instrEvent s i
  | .ignored _ => some .evAddrIgnored

/-- The event of an `Enqueue` (R191, R271). -/
def enqueueEvent (s : State) : Option Event :=
  if s.queue.length < s.cfg.queueDepth then none else some .evQueueDrop

end Sys2Proof.Machine
end

