-- ==== Sys2Proof/Machine/Program.lean ====
section
/-! DEFINITION. The lines of the assembler form of R92 as data, and the host operations each stands for (log 25). -/

namespace Sys2Proof.Machine

/-- A line of a program (R92, R94). -/
inductive Line where
  /-- `WR addr, value`. -/
  | wr (addr : Addr) (value : Value)
  /-- A named command. -/
  | command (i : Instr)
  /-- A pseudo-instruction. -/
  | pseudo (p : Pseudo)
  /-- `TICK n`. -/
  | tick (n : Nat)
  /-- `RESET p`. -/
  | reset (preserve : Bool)
  /-- `MUTE ch, m`. -/
  | mute (ch m : Nat)
deriving DecidableEq, Repr

/-- Each command line is one `Enqueue` (R92). -/
def enqueueOp (m : Command) : HostOp := .enqueue m.addr.toNat m.value.toNat

/-- The host operations a line stands for, in order (R92). -/
def Line.hostOps : Line → List HostOp
  | .wr a v => [enqueueOp ⟨a, v⟩]
  | .command i => [enqueueOp (encode i)]
  | .pseudo p => p.expand.map enqueueOp
  | .tick n => List.replicate n .tick
  | .reset p => [.reset p]
  | .mute ch m => [.setMuted ch m]

/-- The host operations of a program. -/
def programOps (ls : List Line) : List HostOp := ls.flatMap Line.hostOps

end Sys2Proof.Machine
end

