-- ==== Sys2Proof/Safety.lean ====
section
/-! DEFINITION. What counts as a good state (the invariants of R24 to R29, R31 and R239 and what the model adds to them), and
the terms in which statements say what a command leaves unchanged. -/

namespace Sys2Proof.Machine

/-! ### Invariants -/

/-- The volume path of a channel is consistent: a pending code is held only with deferral on (R26), and between two steps
`armed` says that the last waveform value was outside the zero window (DEDUCED from R234, log 16). -/
def pathOk (c : Config) (p : VolumePath) : Prop :=
  (p.pvalid = true → p.zcen = true) ∧ p.armed = outsideWindow c p.w

/-- The sequencer is in a phase of the walk of R201. -/
def phaseOk (c : Config) (p : SeqPhase) : Prop :=
  match p with
  | .idle => True
  | .drain j => j < c.drain
  | .step n => n < c.steps
  | .mix => True

/-- An output is in the range R238 and R240 give its channel. -/
def outputOk (ch : Nat) (v : Sample) : Prop :=
  if ch < 5 then 0 ≤ v.toInt ∧ v.toInt ≤ 1023 else -512 ≤ v.toInt ∧ v.toInt ≤ 512

/-- The invariant that every step keeps. -/
structure Inv (s : State) : Prop where
  /-- The parameters are legal (R6). -/
  legal : s.cfg.legal = true
  /-- Each DDS channel's volume path is consistent (R26). -/
  dds : ∀ i : Fin 4, pathOk s.cfg s.dds[i].toVolumePath
  /-- The noise channel's volume path is consistent. -/
  nz : pathOk s.cfg s.nz.toVolumePath
  /-- `nz.lfsr ≠ 0` (R28). -/
  lfsr : s.nz.lfsr ≠ 0#23
  /-- `nz.reload ≠ 0` (R28). -/
  reload : s.nz.reload ≠ 0#23
  /-- `nz.w` is 0 or 1023 (R27). -/
  level : s.nz.w = 0#10 ∨ s.nz.w = 1023#10
  /-- The queue holds at most `P_QUEUE_DEPTH` entries (R31). -/
  queue : s.queue.length ≤ s.cfg.queueDepth
  /-- The phase is one of R201. -/
  phase : phaseOk s.cfg s.phase
  /-- The outputs are in range (R238, R240). -/
  outputs : ∀ ch : Fin 8, outputOk ch.val s.y[ch]
  /-- `master` is the exact sum of the outputs (R239). -/
  master : s.master.toInt = sumOutputs s.cfg.numCh s.y
  /-- The place of a timer that does not exist holds its reset value (log 3). -/
  absentTimer : s.cfg.numPrt = .four → s.prt[4] = PhaseTimer.cleared
  /-- The places of a channel that does not exist hold their reset values (log 3). -/
  absentChannel : s.cfg.numDac = .two → s.mute[7] = false ∧ s.y[7] = 0#16

/-! ### Frames -/

/-- From `s` to `t` nothing changes but DDS channel `i`. -/
def OnlyDds (i : Fin 4) (s t : State) : Prop :=
  (∀ j : Fin 4, j ≠ i → t.dds[j] = s.dds[j]) ∧ t = { s with dds := t.dds }

/-- From `s` to `t` nothing changes but the noise channel. -/
def OnlyNz (s t : State) : Prop := t = { s with nz := t.nz }

/-- From `s` to `t` nothing changes but phase-reset timer `u`. -/
def OnlyPrt (u : Nat) (s t : State) : Prop :=
  (∀ j : Fin 5, j.val ≠ u → t.prt[j] = s.prt[j]) ∧ t = { s with prt := t.prt }

/-- From `s` to `t` nothing changes but the record of DAC calls. -/
def OnlyDacCalls (s t : State) : Prop := t = { s with dacCalls := t.dacCalls }

/-- From `s` to `t` nothing changes but the output registers. -/
def OnlyOutputs (s t : State) : Prop := t = { s with y := t.y, master := t.master }

/-! ### Runs -/

/-- The accumulator that R110 advances: `tacc` under PWM, `acc` otherwise. -/
def activeAccumulator (d : DdsChannel) : Phase28 := if d.wave = .pwm then d.tacc else d.acc

/-- The zero-cross gate on a sequence of waveform values (R234). -/
def gateAll (c : Config) (ws : List Wave) (p : VolumePath) : VolumePath :=
  ws.foldl (fun q w => zcUpdate c { q with w := w }) p

/-- Apply the commands of a list in order (R68). -/
def applyAll : List Command → State → Out
  | [], s => .next s
  | m :: ms, s => andThen (dispatch m s) (applyAll ms)

/-- `n` ticks in which the commands of the list are applied straight to the block, the next `P_DRAIN` of them at the start of each
tick, in place of the drain slots (R197). -/
def applyTicks : Nat → List Command → State → Out
  | 0, _, s => .next s
  | n + 1, ms, s =>
    andThen (applyAll (ms.take s.cfg.drain) s) fun t => applyTicks n (ms.drop s.cfg.drain) (mix (stepAll t))

/-- The sequencer's steps from IDLE to IDLE for one tick: IDLE, `P_DRAIN` slots, `P_STEPS` steps, MIX (R201). -/
def walkLength (c : Config) : Nat := c.drain + c.steps + 2

/-- A host operation's operands are in their types (R219). -/
def opInRange (c : Config) : HostOp → Prop
  | .enqueue a v => a < 2 ^ 8 ∧ v < 2 ^ 32
  | .queueStatus => True
  | .tick => True
  | .clockAndMix n => 0 ≤ n
  | .setMuted ch m => ch < c.numCh ∧ m < 2
  | .reset _ => True

/-- The sequencer is about to take `op` from the host. -/
def takes (op : HostOp) (rest : List HostOp) (s : State) : Prop :=
  s.phase = .idle ∧ s.clock = none ∧ s.hostOps = op :: rest

end Sys2Proof.Machine
end

