-- ==== Sys2Proof/Certificates/Slice0/Obligations.lean ====
section
/-! DEFINITION. The statements for the provers. Each docstring names the rules of spec/ it formalises; a statement that
rests on a choice of the model says so and names the log entry. Register fields are stated in exact arithmetic (R7), apart
from the bit operations of the meanings. -/

open Sys2Proof Sys2Proof.Machine

/-! ### Encoding -/

/-- R85, R89, R92: in every configuration the decoder reads the encoder's command of a well-formed instruction as that
instruction, for every operand. -/
def Obligations.EncodedInstructionDecodes : Prop :=
  ∀ (c : Config) (i : Instr), i.wellFormed c = true → decode c (encode i) = .instr i

/-- R89: a command that decodes to an instruction is that instruction's own encoding, and the instruction is well formed. -/
def Obligations.DecodedCommandIsItsEncoding : Prop :=
  ∀ (c : Config) (m : Command) (i : Instr), decode c m = .instr i → encode i = m ∧ i.wellFormed c = true

/-- R89: which addresses are Ignored, by channel index and command type. -/
def Obligations.IgnoredAddresses : Prop :=
  ∀ (c : Config) (m : Command),
    (∃ why, decode c m = .ignored why) ↔
      (m.addr.toNat / 16 ≤ 4 ∧ 5 ≤ m.addr.toNat % 16) ∨
      (5 ≤ m.addr.toNat / 16 ∧ m.addr.toNat / 16 ≤ 7 ∧ c.numDac.num ≤ m.addr.toNat / 16 - 5) ∨
      (8 ≤ m.addr.toNat / 16 ∧ (c.numPrt.num ≤ m.addr.toNat / 16 - 8 ∨ 3 ≤ m.addr.toNat % 16))

/-- R80, R93: `W[39:32] = addr` and `W[31:0] = value`, and the four encodings that R93 writes out, as 40-bit words, decode to
the commands it names. -/
def Obligations.SpecWordsDecode : Prop :=
  decode Config.default (Command.ofWord 0x2001000000#40) = .instr (.ddsFreq 2 0x01000000#32) ∧
  decode Config.default (Command.ofWord 0x4200000000#40) = .instr (.nzSeed 0#32) ∧
  decode Config.default (Command.ofWord 0x9100000011#40) = .instr (.prtMask 1 0x11#32) ∧
  decode Config.default (Command.ofWord 0x6300000007#40) = .instr (.dacFwd 1 3#4 7#32) ∧
  ∀ m : Command, m.toWord.toNat = m.addr.toNat * 2 ^ 32 + m.value.toNat ∧ Command.ofWord m.toWord = m

/-! ### Commands -/

/-- R100: DDS.FREQ at address `i << 4` sets the increment to `value[27:0]` and changes nothing else. -/
def Obligations.DdsFreqSetsIncrement : Prop :=
  ∀ (i : Fin 4) (v : Value) (s : State),
    (encode (.ddsFreq i v)).addr.toNat = i.val * 16 ∧
    ∃ t, exec (.ddsFreq i v) s = .next t ∧
      t.dds[i] = { s.dds[i] with freq := BitVec.ofNat 28 v.toNat } ∧ OnlyDds i s t

/-- R101: DDS.WAVE at address `i << 4 | 1` with a value of 0 to 5 sets the waveform type to the value and leaves the rest of
the channel, both accumulators included; with any larger value it changes nothing. -/
def Obligations.DdsWaveSelectsOrIgnores : Prop :=
  ∀ (i : Fin 4) (v : Value) (s : State),
    (encode (.ddsWave i v)).addr.toNat = i.val * 16 + 1 ∧
    ∃ t, exec (.ddsWave i v) s = .next t ∧ OnlyDds i s t ∧
      t.dds[i] = { s.dds[i] with wave := t.dds[i].wave } ∧
      (v.toNat ≤ 5 → (waveformCode t.dds[i].wave).toNat = v.toNat) ∧ (5 < v.toNat → t = s)

/-- R102: DDS.PW at address `i << 4 | 2` sets the pulse width to `value[9:0]` and changes nothing else. -/
def Obligations.DdsPwSetsPulseWidth : Prop :=
  ∀ (i : Fin 4) (v : Value) (s : State),
    (encode (.ddsPw i v)).addr.toNat = i.val * 16 + 2 ∧
    ∃ t, exec (.ddsPw i v) s = .next t ∧
      t.dds[i] = { s.dds[i] with pw := BitVec.ofNat 10 v.toNat } ∧ OnlyDds i s t

/-- R103: DDS.VOL at address `i << 4 | 3` writes `value[7:0]` to the active code with deferral off, and to the pending code
with deferral on, where the active code is not touched. -/
def Obligations.DdsVolSetsOrDefers : Prop :=
  ∀ (i : Fin 4) (v : Value) (s : State),
    (encode (.ddsVol i v)).addr.toNat = i.val * 16 + 3 ∧
    ∃ t, exec (.ddsVol i v) s = .next t ∧ OnlyDds i s t ∧
      (s.dds[i].zcen = false → t.dds[i] = { s.dds[i] with vol := BitVec.ofNat 8 v.toNat }) ∧
      (s.dds[i].zcen = true → t.dds[i] = { s.dds[i] with pvol := BitVec.ofNat 8 v.toNat, pvalid := true })

/-- R104: DDS.ZCEN at address `i << 4 | 4` sets `zcen` to `value[0]`; turning it off with a pending code commits the code. -/
def Obligations.DdsZcenSwitchesDeferral : Prop :=
  ∀ (i : Fin 4) (v : Value) (s : State),
    (encode (.ddsZcen i v)).addr.toNat = i.val * 16 + 4 ∧
    ∃ t, exec (.ddsZcen i v) s = .next t ∧ OnlyDds i s t ∧
      (v.toNat % 2 = 1 → t.dds[i] = { s.dds[i] with zcen := true }) ∧
      (v.toNat % 2 = 0 → s.dds[i].pvalid = false → t.dds[i] = { s.dds[i] with zcen := false }) ∧
      (v.toNat % 2 = 0 → s.dds[i].pvalid = true →
        t.dds[i] = { s.dds[i] with vol := s.dds[i].pvol, pvalid := false, zcen := false })

/-- R140: NZ.FREQ at address 0x40 sets the external increment, and changes nothing in internal-clock mode. -/
def Obligations.NzFreqSetsIncrementOrIsLost : Prop :=
  ∀ (v : Value) (s : State),
    (encode (.nzFreq v)).addr.toNat = 0x40 ∧
    ∃ t, exec (.nzFreq v) s = .next t ∧ OnlyNz s t ∧
      (s.nz.intclk = false → t.nz = { s.nz with freq := v }) ∧ (s.nz.intclk = true → t = s)

/-- R141: NZ.CLK at address 0x41 sets `intclk` to `value[0]` and changes neither the increment nor the accumulator. -/
def Obligations.NzClkSelectsClock : Prop :=
  ∀ (v : Value) (s : State),
    (encode (.nzClk v)).addr.toNat = 0x41 ∧
    ∃ t, exec (.nzClk v) s = .next t ∧ OnlyNz s t ∧
      t.nz = { s.nz with intclk := decide (v.toNat % 2 = 1) }

/-- R142: NZ.SEED at address 0x42 sets the register and the reload value to `value[22:0]`, or to 1 where those bits are 0. -/
def Obligations.NzSeedSetsRegisterAndReload : Prop :=
  ∀ (v : Value) (s : State),
    (encode (.nzSeed v)).addr.toNat = 0x42 ∧
    ∃ t, exec (.nzSeed v) s = .next t ∧ OnlyNz s t ∧
      t.nz = { s.nz with lfsr := t.nz.lfsr, reload := t.nz.lfsr } ∧
      t.nz.lfsr.toNat = if v.toNat % 2 ^ 23 = 0 then 1 else v.toNat % 2 ^ 23

/-- R143: NZ.VOL at address 0x43 sets or defers the volume code. -/
def Obligations.NzVolSetsOrDefers : Prop :=
  ∀ (v : Value) (s : State),
    (encode (.nzVol v)).addr.toNat = 0x43 ∧
    ∃ t, exec (.nzVol v) s = .next t ∧ OnlyNz s t ∧
      (s.nz.zcen = false → t.nz = { s.nz with vol := BitVec.ofNat 8 v.toNat }) ∧
      (s.nz.zcen = true → t.nz = { s.nz with pvol := BitVec.ofNat 8 v.toNat, pvalid := true })

/-- R144: NZ.ZCEN at address 0x44 sets `zcen` to `value[0]`; turning it off with a pending code commits the code. -/
def Obligations.NzZcenSwitchesDeferral : Prop :=
  ∀ (v : Value) (s : State),
    (encode (.nzZcen v)).addr.toNat = 0x44 ∧
    ∃ t, exec (.nzZcen v) s = .next t ∧ OnlyNz s t ∧
      (v.toNat % 2 = 1 → t.nz = { s.nz with zcen := true }) ∧
      (v.toNat % 2 = 0 → s.nz.pvalid = false → t.nz = { s.nz with zcen := false }) ∧
      (v.toNat % 2 = 0 → s.nz.pvalid = true →
        t.nz = { s.nz with vol := s.nz.pvol, pvalid := false, zcen := false })

/-- R205, its `DacWrite`: DAC.FWD at address `(5 + k) << 4 | cmd` calls the DAC port with the channel, the command type and the
whole value, and keeps no other state. The record of calls is
the model's (log 4), and so is that the instruction does nothing for a channel that does not exist, to which no command decodes
(R83, log 13). -/
def Obligations.DacFwdForwards : Prop :=
  ∀ (k : Fin 3) (cmd : CmdType) (v : Value) (s : State),
    (encode (.dacFwd k cmd v)).addr.toNat = (5 + k.val) * 16 + cmd.toNat ∧
    ∃ t, exec (.dacFwd k cmd v) s = .next t ∧ OnlyDacCalls s t ∧
      (k.val < s.cfg.numDac.num → t.dacCalls = .write k cmd v :: s.dacCalls) ∧
      (s.cfg.numDac.num ≤ k.val → t = s)

/-- R170: PRT.FREQ at address `(8 + t) << 4` sets the increment of timer `t` and changes nothing else, the accumulator
included. -/
def Obligations.PrtFreqSetsIncrement : Prop :=
  ∀ (t : Fin 8) (v : Value) (s : State),
    (encode (.prtFreq t v)).addr.toNat = (8 + t.val) * 16 ∧
    ∃ u, exec (.prtFreq t v) s = .next u ∧ OnlyPrt t.val s u ∧
      ∀ j : Fin 5, j.val = t.val → t.val < s.cfg.numPrt.num → u.prt[j] = { s.prt[j] with freq := v }

/-- R171, R172: PRT.MASK at address `(8 + t) << 4 | 1` sets the channel bitmask of timer `t` to `value[7:0]`, PRT.EN at address
`(8 + t) << 4 | 2` its enable to `value[0]`, and each changes nothing else, the accumulator included. -/
def Obligations.PrtMaskAndEnSetTheirField : Prop :=
  ∀ (t : Fin 8) (v : Value) (s : State),
    (encode (.prtMask t v)).addr.toNat = (8 + t.val) * 16 + 1 ∧
    (encode (.prtEn t v)).addr.toNat = (8 + t.val) * 16 + 2 ∧
    (∃ u, exec (.prtMask t v) s = .next u ∧ OnlyPrt t.val s u ∧
      ∀ j : Fin 5, j.val = t.val → t.val < s.cfg.numPrt.num →
        u.prt[j] = { s.prt[j] with mask := BitVec.ofNat 8 v.toNat }) ∧
    ∃ u, exec (.prtEn t v) s = .next u ∧ OnlyPrt t.val s u ∧
      ∀ j : Fin 5, j.val = t.val → t.val < s.cfg.numPrt.num →
        u.prt[j] = { s.prt[j] with en := decide (v.toNat % 2 = 1) }

/-- R83: an instruction for a DAC channel or a timer that the configuration does not have changes nothing. No command decodes
to such an instruction (R89); that it does nothing is the model's choice (log 13). -/
def Obligations.AbsentUnitsDoNothing : Prop :=
  ∀ (i : Instr) (s : State), i.wellFormed s.cfg = false →
    exec i s = .next s ∧ ∃ why, decode s.cfg (encode i) = .ignored why

/-- R65, its last sentence: a command other than DAC.FWD, applied twice with no internal step between, leaves the state its
first application left. -/
def Obligations.SecondApplicationChangesNothing : Prop :=
  ∀ (i : Instr) (s : State), (∀ k cmd v, i ≠ .dacFwd k cmd v) →
    ∃ t, exec i s = .next t ∧ exec i t = .next t

/-- R271, R272: when the model tags a command or an `Enqueue` with which event, in terms of the address, the value, `nz.intclk`
and the queue, and what each outcome is. That the tags are functions and no state is the model's choice (log 18). -/
def Obligations.EventsNameTheirOutcomes : Prop :=
  ∀ (s : State) (m : Command),
    (commandEvent s m = some .evAddrIgnored ↔
      (m.addr.toNat / 16 ≤ 4 ∧ 5 ≤ m.addr.toNat % 16) ∨
      (5 ≤ m.addr.toNat / 16 ∧ m.addr.toNat / 16 ≤ 7 ∧ s.cfg.numDac.num ≤ m.addr.toNat / 16 - 5) ∨
      (8 ≤ m.addr.toNat / 16 ∧ (s.cfg.numPrt.num ≤ m.addr.toNat / 16 - 8 ∨ 3 ≤ m.addr.toNat % 16))) ∧
    (commandEvent s m = some .evWaveIgnored ↔
      m.addr.toNat / 16 ≤ 3 ∧ m.addr.toNat % 16 = 1 ∧ 5 < m.value.toNat) ∧
    (commandEvent s m = some .evSeedCoerced ↔ m.addr.toNat = 0x42 ∧ m.value.toNat % 2 ^ 23 = 0) ∧
    (commandEvent s m = some .evNzFreqIgnored ↔ m.addr.toNat = 0x40 ∧ s.nz.intclk = true) ∧
    commandEvent s m ≠ some .evQueueDrop ∧
    (enqueueEvent s = some .evQueueDrop ↔ s.cfg.queueDepth ≤ s.queue.length) ∧
    (enqueueEvent s = none ↔ s.queue.length < s.cfg.queueDepth) ∧
    (∀ e, commandEvent s m = some e → e ≠ .evSeedCoerced → dispatch m s = .next s) ∧
    (commandEvent s m = some .evSeedCoerced →
      dispatch m s = .next { s with nz := { s.nz with lfsr := 1#23, reload := 1#23 } }) ∧
    (enqueueEvent s = some .evQueueDrop →
      enqueue m s = { s with qOvf := true, returns := .accepted false :: s.returns })

/-! ### Clock steps -/

/-- R111 to R117: the value of each waveform from the accumulator, in exact arithmetic. -/
def Obligations.WaveformValues : Prop :=
  ∀ (c : Config) (d : DdsChannel),
    (d.wave = .none → waveMux c d = 0#10) ∧
    (d.wave = .sine → waveMux c d = sineAt c (BitVec.ofNat 10 (d.acc.toNat / 2 ^ 18))) ∧
    (d.wave = .triangle → (waveMux c d).toNat =
      if d.acc.toNat / 2 ^ 17 < 1024 then d.acc.toNat / 2 ^ 17 else 1023 - (d.acc.toNat / 2 ^ 17 - 1024)) ∧
    (d.wave = .squareFull → (waveMux c d).toNat = if d.acc.toNat < 2 ^ 27 then 1023 else 0) ∧
    (d.wave = .squareHalf → (waveMux c d).toNat = if d.acc.toNat < 2 ^ 27 then 511 else 0) ∧
    (d.wave = .pwm → (waveMux c d).toNat = if d.tacc.toNat / 2 ^ 18 < d.pw.toNat then 1023 else 0)

/-- R110: one DDS clock step advances exactly one accumulator modulo 2^28, computes the waveform value and runs the
zero-cross gate on it; the increment, waveform type and pulse width stay. The internal step does this to every channel, after
its phase resets. -/
def Obligations.DdsStepAdvancesOneAccumulator : Prop :=
  ∀ (c : Config) (d : DdsChannel),
    (d.wave = .pwm → (ddsStep c d).tacc.toNat = (d.tacc.toNat + d.freq.toNat) % 2 ^ 28 ∧ (ddsStep c d).acc = d.acc) ∧
    (d.wave ≠ .pwm → (ddsStep c d).acc.toNat = (d.acc.toNat + d.freq.toNat) % 2 ^ 28 ∧ (ddsStep c d).tacc = d.tacc) ∧
    (ddsStep c d).toVolumePath = zcUpdate c { d.toVolumePath with w := waveMux c (ddsStep c d) } ∧
    (ddsStep c d).freq = d.freq ∧ (ddsStep c d).wave = d.wave ∧ (ddsStep c d).pw = d.pw ∧
    ∀ (s : State) (i : Fin 4), (internalStep s).dds[i] = ddsStep s.cfg (applyPhaseReset (pulseSet s) s).dds[i]

/-- R119: the accumulator in use returns to its starting value after `2^28 / gcd(f, 2^28)` steps, and after no smaller
positive number of them. -/
def Obligations.AccumulatorPeriod : Prop :=
  ∀ (c : Config) (d : DdsChannel),
    activeAccumulator ((ddsStep c)^[2 ^ 28 / Nat.gcd d.freq.toNat (2 ^ 28)] d) = activeAccumulator d ∧
    ∀ m, 0 < m → m < 2 ^ 28 / Nat.gcd d.freq.toNat (2 ^ 28) →
      activeAccumulator ((ddsStep c)^[m] d) ≠ activeAccumulator d

/-- R237, its case of frequency 0: a channel whose increment is 0, at a waveform value its gate has seen, is left as it is by
every number of clock steps, so a pending code stays pending. That `armed` then tells whether the value is outside the window
is read from R234 (log 16). -/
def Obligations.StoppedChannelNeverCommits : Prop :=
  ∀ (c : Config) (d : DdsChannel) (n : Nat),
    d.freq = 0#28 → d.w = waveMux c d → d.armed = outsideWindow c d.w → (ddsStep c)^[n] d = d

/-- R150: the noise clock step in exact arithmetic; the internal step does it once, after its phase resets. -/
def Obligations.NoiseStepShiftsOnOverflow : Prop :=
  ∀ (c : Config) (n : NoiseChannel) (inc : Nat),
    inc = (if n.intclk = true then c.noiseIntInc.toNat else n.freq.toNat) →
    (noiseStep c n).acc.toNat = (n.acc.toNat + inc) % 2 ^ 32 ∧
    (2 ^ 32 ≤ n.acc.toNat + inc →
      (noiseStep c n).lfsr.toNat =
        (2 * n.lfsr.toNat + (n.lfsr.toNat / 2 ^ 22 + n.lfsr.toNat / 2 ^ 17) % 2) % 2 ^ 23 ∧
      (noiseStep c n).w.toNat = if (noiseStep c n).lfsr.toNat % 2 = 1 then 1023 else 0) ∧
    (n.acc.toNat + inc < 2 ^ 32 → (noiseStep c n).lfsr = n.lfsr ∧ (noiseStep c n).w = n.w) ∧
    (noiseStep c n).toVolumePath = zcUpdate c { n.toVolumePath with w := (noiseStep c n).w } ∧
    (noiseStep c n).reload = n.reload ∧ (noiseStep c n).freq = n.freq ∧ (noiseStep c n).intclk = n.intclk ∧
    ∀ s : State, (internalStep s).nz = noiseStep s.cfg (applyPhaseReset (pulseSet s) s).nz

/-- R154: over `n` internal steps with a constant increment the register shifts `floor((a0 + n*inc) / 2^32)` times, and with
`inc = 2^32 / m` it shifts once every `m` steps. -/
def Obligations.NoiseShiftCount : Prop :=
  ∀ (c : Config) (z : NoiseChannel) (n : Nat),
    ((noiseStep c)^[n] z).lfsr =
      lfsrShift^[(z.acc.toNat + n * (noiseIncrement c z).toNat) / 2 ^ 32] z.lfsr ∧
    ∀ m k, (noiseIncrement c z).toNat * m = 2 ^ 32 → n = k * m →
      ((noiseStep c)^[n] z).lfsr = lfsrShift^[k] z.lfsr

/-- R151, and 95_test_vectors.md L1.2 on every nonzero state: from each value but 0 the shift register first returns to that value
after 2^23 - 1 shifts. -/
def Obligations.NoiseSequenceIsMaximal : Prop :=
  ∀ l : Lfsr, l ≠ 0#23 →
    lfsrShift^[2 ^ 23 - 1] l = l ∧ ∀ n, 0 < n → n < 2 ^ 23 - 1 → lfsrShift^[n] l ≠ l

/-- R155: whatever the seed, the register is not 0 after NZ.SEED nor after any number of further steps of the machine, and
NZ.SEED 0 gives the state that NZ.SEED 1 gives. -/
def Obligations.SeededNoiseNeverSettles : Prop :=
  ∀ (v : Value) (s : State),
    exec (.nzSeed 0#32) s = exec (.nzSeed 1#32) s ∧
    ∃ t, exec (.nzSeed v) s = .next t ∧
      ∀ k u, Sys2Proof.core.run k t = .next u → u.nz.lfsr ≠ 0#23

/-- R175: one advance of the timers. The pulse set holds exactly the mask bits of the enabled timers whose 33-bit sum
overflows; an enabled timer's accumulator takes the sum modulo 2^32; nothing else changes. The internal step does this to
the timers once. -/
def Obligations.TimersAdvanceAndFire : Prop :=
  ∀ s : State,
    (∀ ch : Fin 8, (pulseSet s).getLsbD ch.val = true ↔
      ∃ t : Fin 5, t.val < s.cfg.numPrt.num ∧ s.prt[t].en = true ∧
        2 ^ 32 ≤ s.prt[t].acc.toNat + s.prt[t].freq.toNat ∧ s.prt[t].mask.getLsbD ch.val = true) ∧
    advanceTimers s = { s with prt := (advanceTimers s).prt } ∧ (internalStep s).prt = (advanceTimers s).prt ∧
    ∀ t : Fin 5,
      (advanceTimers s).prt[t] = { s.prt[t] with acc := (advanceTimers s).prt[t].acc } ∧
      (t.val < s.cfg.numPrt.num → s.prt[t].en = true →
        (advanceTimers s).prt[t].acc.toNat = (s.prt[t].acc.toNat + s.prt[t].freq.toNat) % 2 ^ 32) ∧
      (s.cfg.numPrt.num ≤ t.val ∨ s.prt[t].en = false → (advanceTimers s).prt[t] = s.prt[t])

/-- R179: an enabled timer fires at internal step `n + 1` exactly when `floor((a0 + n*f) / 2^32)` increases there, and with
`a0 = 0` and `f = 2^32 / m` exactly at the multiples of `m`. -/
def Obligations.TimerFiringPeriod : Prop :=
  ∀ (p : PhaseTimer) (n : Nat), p.en = true →
    (timerFires (timerAdvance^[n] p) = true ↔
      (p.acc.toNat + n * p.freq.toNat) / 2 ^ 32 < (p.acc.toNat + (n + 1) * p.freq.toNat) / 2 ^ 32) ∧
    (p.acc = 0#32 → ∀ m, p.freq.toNat * m = 2 ^ 32 →
      (timerFires (timerAdvance^[n] p) = true ↔ m ∣ n + 1))

/-- R176: the phase reset of pulse set `P`: both accumulators of the selected DDS channels to 0, the noise register to its
reload value, a strobe to each selected DAC channel in order of the channels, and nothing else. R205, R177, R210: the internal step
makes those strobes and then one `DacStep`, and changes nothing but the channels, the timers and the record of calls. That calls
are recorded, newest first, is the model's (log 4). -/
def Obligations.PhaseResetPropagates : Prop :=
  ∀ (P : Mask) (s : State),
    (∀ i : Fin 4, (applyPhaseReset P s).dds[i] =
      if P.getLsbD i.val = true then { s.dds[i] with acc := 0#28, tacc := 0#28 } else s.dds[i]) ∧
    (applyPhaseReset P s).nz = (if P.getLsbD 4 = true then { s.nz with lfsr := s.nz.reload } else s.nz) ∧
    (applyPhaseReset P s).dacCalls =
      (([2, 1, 0] : List (Fin 3)).filter fun k =>
        decide (k.val < s.cfg.numDac.num) && P.getLsbD (5 + k.val)).map DacCall.phaseReset ++ s.dacCalls ∧
    applyPhaseReset P s = { s with dds := (applyPhaseReset P s).dds, nz := (applyPhaseReset P s).nz,
                                   dacCalls := (applyPhaseReset P s).dacCalls } ∧
    (internalStep s).dacCalls = .step :: (applyPhaseReset (pulseSet s) s).dacCalls ∧
    internalStep s = { s with dds := (internalStep s).dds, nz := (internalStep s).nz, prt := (internalStep s).prt,
                              dacCalls := (internalStep s).dacCalls }

/-- R121: in an internal step whose pulse set selects DDS channel `i`, both accumulators are set to 0 before the advance, so
the accumulator in use ends at `freq`, the other at 0, and the waveform value is computed there. -/
def Obligations.ResetComesBeforeAdvance : Prop :=
  ∀ (s : State) (i : Fin 4), (pulseSet s).getLsbD i.val = true →
    (s.dds[i].wave = .pwm → (internalStep s).dds[i].tacc = s.dds[i].freq ∧ (internalStep s).dds[i].acc = 0#28) ∧
    (s.dds[i].wave ≠ .pwm → (internalStep s).dds[i].acc = s.dds[i].freq ∧ (internalStep s).dds[i].tacc = 0#28) ∧
    (internalStep s).dds[i].w = waveMux s.cfg (internalStep s).dds[i]

/-! ### Volume, gate and mix -/

/-- R234: the zero-cross gate, case by case. -/
def Obligations.ZeroCrossGate : Prop :=
  ∀ (c : Config) (p : VolumePath),
    (c.zcTol.toNat < p.w.toNat → zcUpdate c p = { p with armed := true }) ∧
    (p.w.toNat ≤ c.zcTol.toNat → p.armed = false → zcUpdate c p = p) ∧
    (p.w.toNat ≤ c.zcTol.toNat → p.armed = true → p.pvalid = false → zcUpdate c p = { p with armed := false }) ∧
    (p.w.toNat ≤ c.zcTol.toNat → p.armed = true → p.pvalid = true →
      zcUpdate c p = { p with armed := false, vol := p.pvol, pvalid := false })

/-- R235: from an entry into the window (`armed` = 0), no value inside the window commits, however many follow; the next
commit is at the first value inside after one outside. -/
def Obligations.OneCommitPerCrossing : Prop :=
  ∀ (c : Config) (p : VolumePath) (ws : List Wave), p.armed = false → (∀ w ∈ ws, w.toNat ≤ c.zcTol.toNat) →
    ((gateAll c ws p).vol = p.vol ∧ (gateAll c ws p).pvol = p.pvol ∧ (gateAll c ws p).pvalid = p.pvalid ∧
      (gateAll c ws p).armed = false) ∧
    ∀ w₁ w₂ : Wave, c.zcTol.toNat < w₁.toNat → w₂.toNat ≤ c.zcTol.toNat →
      (gateAll c (ws ++ [w₁]) p).vol = p.vol ∧
      (gateAll c (ws ++ [w₁, w₂]) p).vol = (if p.pvalid = true then p.pvol else p.vol) ∧
      (gateAll c (ws ++ [w₁, w₂]) p).pvalid = false

/-- R232: the attenuated output: the exact product shifted right by 16, at most 1023, the waveform value itself at code 255
and 0 at code 0 with the listed table, and 0 for a waveform value of 0. -/
def Obligations.VolumeMultiplier : Prop :=
  ∀ (c : Config) (p : VolumePath), c.legal = true →
    (attenuate c p).toNat = p.w.toNat * (gainAt c p.vol).toNat / 65536 ∧
    p.w.toNat * (gainAt c p.vol).toNat < 2 ^ 27 ∧ (attenuate c p).toNat ≤ 1023 ∧
    (c.gainLut = .listed → p.vol = 255#8 → attenuate c p = p.w) ∧
    (c.gainLut = .listed → p.vol = 0#8 → attenuate c p = 0#10) ∧
    (p.w = 0#10 → attenuate c p = 0#10)

/-- R240: the DAC term rounds toward minus infinity and lies in -512 to 512. -/
def Obligations.DacTermCentresAndScales : Prop :=
  ∀ d : DacOut, dacTerm d = Int.fdiv ((d.toNat : Int) - 2047) 4 ∧ -512 ≤ dacTerm d ∧ dacTerm d ≤ 512

/-- R238: the outputs of the mix, channel by channel, their sum in `master`, and that it changes nothing but the output
registers. What a DAC channel answers is a free value (log 4). -/
def Obligations.MixOutputsOfEachChannel : Prop :=
  ∀ s : State, OnlyOutputs s (mix s) ∧ (mix s).master.toInt = sumOutputs s.cfg.numCh (mix s).y ∧
    ∀ ch : Fin 8, ch.val < s.cfg.numCh →
      (s.mute[ch] = true → (mix s).y[ch] = 0#16) ∧
      (s.mute[ch] = false →
        (∀ i : Fin 4, ch.val = i.val → (mix s).y[ch].toInt = (attenuate s.cfg s.dds[i].toVolumePath).toNat) ∧
        (ch.val = 4 → (mix s).y[ch].toInt = (attenuate s.cfg s.nz.toVolumePath).toNat) ∧
        (∀ k : Fin 3, ch.val = 5 + k.val → (mix s).y[ch].toInt = dacTerm (dacOut s k))) ∧
      (ch.val < 5 → 0 ≤ (mix s).y[ch].toInt ∧ (mix s).y[ch].toInt ≤ 1023)

/-- R239: `master` is the exact integer sum of the outputs the same mix wrote, and its range. -/
def Obligations.MasterIsTheExactSum : Prop :=
  ∀ s : State,
    (mix s).master.toInt = sumOutputs s.cfg.numCh (mix s).y ∧
    -512 * (s.cfg.numDac.num : Int) ≤ (mix s).master.toInt ∧
    (mix s).master.toInt ≤ 5 * 1023 + 512 * (s.cfg.numDac.num : Int)

/-! ### The sequencer and the host's operations -/

/-- R195, R200: in a drain slot whose queue head decodes to an instruction, the step is that instruction's `exec`, with the
head popped and the sequencer moved to the slot's successor of R201. That one phase is one step is the model's (log 6). -/
def Obligations.StepRunsTheDecodedCommand : Prop :=
  ∀ (s : State) (j : Nat) (m : Command) (rest : List Command) (i : Instr),
    s.phase = .drain j → s.queue = m :: rest → decode s.cfg m = .instr i →
    step s = exec i { s with queue := rest,
                             phase := if j + 1 < s.cfg.drain then .drain (j + 1) else .step 0 }

/-- R90, R91, R195: in a drain slot an ignored command is popped and changes nothing else, and an empty queue leaves all but the
sequencer's phase; R282: in IDLE, while the host asks for nothing, the state does not change. That the host asking for nothing is
an empty list is the model's (log 7). -/
def Obligations.NothingToDoChangesNothing : Prop :=
  (∀ (s : State) (j : Nat), s.phase = .drain j →
    (∀ (m : Command) (rest : List Command) (why : Reserved), s.queue = m :: rest → decode s.cfg m = .ignored why →
      step s = .next { s with queue := rest,
                              phase := if j + 1 < s.cfg.drain then .drain (j + 1) else .step 0 }) ∧
    (s.queue = [] → step s = .next { s with phase := if j + 1 < s.cfg.drain then .drain (j + 1) else .step 0 })) ∧
  ∀ s : State, s.phase = .idle → s.clock = none → s.hostOps = [] → step s = .next s

/-- R190, R191: `Enqueue` appends and returns 1, or, on a full queue, drops the new write, sets `q_ovf` and returns 0.
That the operation is taken from a list in State and its result recorded there is the model's (log 7, log 8). -/
def Obligations.EnqueueAppendsOrDrops : Prop :=
  ∀ (s : State) (a v : Nat) (rest : List HostOp), takes (.enqueue a v) rest s → a < 2 ^ 8 → v < 2 ^ 32 →
    (s.queue.length < s.cfg.queueDepth →
      step s = .next { s with hostOps := rest, queue := s.queue ++ [⟨BitVec.ofNat 8 a, BitVec.ofNat 32 v⟩],
                              returns := .accepted true :: s.returns }) ∧
    (s.cfg.queueDepth ≤ s.queue.length →
      step s = .next { s with hostOps := rest, qOvf := true, returns := .accepted false :: s.returns })

/-- R192: `QueueStatus` returns `len(q)` and `q_ovf` and changes nothing of the block. That the operation is taken from a list in
State and its result recorded there is the model's (log 7, log 8). -/
def Obligations.QueueStatusReads : Prop :=
  ∀ (s : State) (rest : List HostOp), takes .queueStatus rest s →
    step s = .next { s with hostOps := rest, returns := .status s.queue.length s.qOvf :: s.returns }

/-- R217: `SetMuted` writes the one flag and changes nothing else of the block. That the operation is taken from a list in
State and its end recorded there is the model's (log 7, log 8). -/
def Obligations.SetMutedWritesOneFlag : Prop :=
  ∀ (s : State) (ch m : Nat) (rest : List HostOp), takes (.setMuted ch m) rest s → ch < s.cfg.numCh → m < 2 →
    ∃ t, step s = .next t ∧
      (∀ c : Fin 8, t.mute[c] = if c.val = ch then decide (m = 1) else s.mute[c]) ∧
      t = { s with hostOps := rest, mute := t.mute, returns := .done :: s.returns }

/-- R219, R270: the machine never faults, and it refuses exactly when it takes a host operation with an operand outside its
type; every other step has a next state. That a refusal ends the run is the model's reading (log 7). -/
def Obligations.OnlyHostOperandsAreRefused : Prop :=
  ∀ s : State,
    ((∃ t, step s = .next t) ↔ ¬ ∃ op rest, takes op rest s ∧ ¬ opInRange s.cfg op) ∧
    ((∃ r, step s = .refused r) ↔ ∃ op rest, takes op rest s ∧ ¬ opInRange s.cfg op)

/-- R290, R291, R292: `Reset(p)`, field by field; the queue, `q_ovf` and the parameters stay. That the operation is taken
from a list in State, its end recorded there and the DAC call recorded is the model's (log 4, log 7, log 8). -/
def Obligations.ResetSetsEveryField : Prop :=
  ∀ (s : State) (p : Bool) (rest : List HostOp), takes (.reset p) rest s →
    ∃ t, step s = .next t ∧
      (∀ i : Fin 4, t.dds[i] =
        { acc := 0#28, tacc := 0#28, freq := 0#28, wave := .none, pw := 0#10,
          vol := if s.cfg.resetAppliesPending = true ∧ s.dds[i].pvalid = true then s.dds[i].pvol else 255#8,
          pvol := 0#8, pvalid := false, zcen := false, armed := false, w := 0#10 }) ∧
      t.nz =
        { lfsr := 1#23, reload := 1#23, acc := 0#32, freq := 0#32, intclk := false,
          vol := if s.cfg.resetAppliesPending = true ∧ s.nz.pvalid = true then s.nz.pvol else 255#8,
          pvol := 0#8, pvalid := false, zcen := false, armed := false, w := 0#10 } ∧
      (∀ u : Fin 5, u.val < s.cfg.numPrt.num → t.prt[u] = { acc := 0#32, freq := 0#32, mask := 0#8, en := false }) ∧
      (∀ ch : Fin 8, ch.val < s.cfg.numCh →
        t.mute[ch] = (if p = true then s.mute[ch] else false) ∧ t.y[ch] = 0#16) ∧
      t.master = 0#16 ∧ t.dacCalls = .reset p :: s.dacCalls ∧
      t = { s with dds := t.dds, nz := t.nz, prt := t.prt, mute := t.mute, y := t.y, master := t.master,
                   dacCalls := t.dacCalls, hostOps := rest, returns := .done :: s.returns }

/-- R293: the power-on state is that of `Reset(0)` applied to a state of the default configuration with nothing pending, with
the queue empty and `q_ovf` 0 and one `DacReset(0)` sent. That places with no channel or timer behind them hold zeros, and the
fields of the host's side, are the model's (log 3, log 7, log 8, log 9). -/
def Obligations.PowerOnIsResetWithNothingPending : Prop :=
  ∀ s : State, s.cfg = Config.default → (∀ i : Fin 4, s.dds[i].pvalid = false) → s.nz.pvalid = false →
    s.prt[4] = PhaseTimer.cleared → s.mute[7] = false → s.y[7] = 0#16 →
    State.reset = { resetBlock false s with queue := [], qOvf := false, phase := .idle, dacCalls := [.reset false],
                                            hostOps := [], clock := none, returns := [] }

/-- R295, its second sentence as it stands: two resets in a row equal one when `P_RESET_APPLIES_PENDING` is true or nothing is
pending. R290 and R291 make it false where the parameter is true and a code is pending: the first reset leaves that code in
`vol`, the second 255 (log 17). The record of DAC calls, which the second reset lengthens, is left out of the comparison. -/
def Obligations.TwoResetsEqualOneAsR295Says : Prop :=
  ∀ (p : Bool) (s : State),
    s.cfg.resetAppliesPending = true ∨ ((∀ i : Fin 4, s.dds[i].pvalid = false) ∧ s.nz.pvalid = false) →
    { resetBlock p (resetBlock p s) with dacCalls := [] } = { resetBlock p s with dacCalls := [] }

/-- R295, its first sentence: whatever the state before, two states of one configuration are alike after `Reset(p)` but for the
volumes, the mute flags when `p` = 1, the queue and `q_ovf`. R290, R291: two resets in a row equal one exactly when, with
`P_RESET_APPLIES_PENDING` true, no pending code is another than 255; so they do when the parameter is false or nothing is pending
(log 17). The record of DAC calls (log 4) is left out of the comparison. -/
def Obligations.TwoResetsEqualOne : Prop :=
  ∀ (p : Bool) (s : State),
    (s.cfg.resetAppliesPending = false ∨ ((∀ i : Fin 4, s.dds[i].pvalid = false) ∧ s.nz.pvalid = false) →
      { resetBlock p (resetBlock p s) with dacCalls := [] } = { resetBlock p s with dacCalls := [] }) ∧
    ({ resetBlock p (resetBlock p s) with dacCalls := [] } = { resetBlock p s with dacCalls := [] } ↔
      (s.cfg.resetAppliesPending = true →
        (∀ i : Fin 4, s.dds[i].pvalid = true → s.dds[i].pvol = 255#8) ∧ (s.nz.pvalid = true → s.nz.pvol = 255#8))) ∧
    ∀ u : State, u.cfg = s.cfg →
      (∀ i : Fin 4, { (resetBlock p u).dds[i] with vol := 255#8 } = { (resetBlock p s).dds[i] with vol := 255#8 }) ∧
      { (resetBlock p u).nz with vol := 255#8 } = { (resetBlock p s).nz with vol := 255#8 } ∧
      (∀ t : Fin 5, t.val < s.cfg.numPrt.num → (resetBlock p u).prt[t] = (resetBlock p s).prt[t]) ∧
      (∀ ch : Fin 8, ch.val < s.cfg.numCh → (resetBlock p u).y[ch] = (resetBlock p s).y[ch] ∧
        (p = false → (resetBlock p u).mute[ch] = (resetBlock p s).mute[ch])) ∧
      (resetBlock p u).master = (resetBlock p s).master

/-! ### The queue and the tick -/

/-- R195, R196: the drain slots of a tick apply the first `P_DRAIN` entries of the queue, in order and each once, and leave the
rest as they are. -/
def Obligations.TickDrainsFromTheFront : Prop :=
  ∀ s : State, drainAll s = applyAll (s.queue.take s.cfg.drain) (s.withQueue (s.queue.drop s.cfg.drain))

/-- R197: after `M` ticks the first `M * P_DRAIN` entries have been applied, in order, `P_DRAIN` at the start of each tick, and the
rest stand in the queue unchanged and in order and have had no effect: applying those entries straight to the block, with no
queue at all, ends in the same state, and so do the same ticks on a queue that holds nothing else. -/
def Obligations.QueueRateLimit : Prop :=
  ∀ (M : Nat) (s : State),
    ∃ t, repeatOut M tick s = .next t ∧ t.queue = s.queue.drop (M * s.cfg.drain) ∧
      applyTicks M (s.queue.take (M * s.cfg.drain)) (s.withQueue []) = .next (t.withQueue []) ∧
      repeatOut M tick (s.withQueue (s.queue.take (M * s.cfg.drain))) = .next (t.withQueue [])

/-- R31: only `Enqueue` appends to the queue and only a drain slot removes from it, at the head; it never grows past
`P_QUEUE_DEPTH`. That one phase is one step and operations are taken from a list is the model's (log 6, log 7). -/
def Obligations.QueueChangesAtItsEndsOnly : Prop :=
  ∀ s t : State, step s = .next t →
    (t.queue = s.queue ∨
      (∃ (j : Nat) (m : Command), s.phase = .drain j ∧ s.queue = m :: t.queue) ∨
      (∃ (a v : Nat) (rest : List HostOp), takes (.enqueue a v) rest s ∧
        t.queue = s.queue ++ [⟨BitVec.ofNat 8 a, BitVec.ofNat 32 v⟩])) ∧
    (s.queue.length ≤ s.cfg.queueDepth → t.queue.length ≤ t.cfg.queueDepth)

/-- R33: `q_ovf` is 0 at power-on, set by an `Enqueue` that finds the queue full, and cleared by nothing. That
operations are taken from a list is the model's (log 7). -/
def Obligations.OverflowBitIsSticky : Prop :=
  State.reset.qOvf = false ∧
  ∀ s t : State, step s = .next t →
    (t.qOvf = true ↔ s.qOvf = true ∨
      ∃ (a v : Nat) (rest : List HostOp), takes (.enqueue a v) rest s ∧ s.cfg.queueDepth ≤ s.queue.length)

/-- R34, R35: a step changes a mute flag only when it takes a `SetMuted` or a `Reset(0)`, and an output only in MIX, which leaves
what the mix computes, or when it takes a `Reset`. That operations are taken from a list is the model's (log 7). -/
def Obligations.MutesAndOutputsHaveTheirWriters : Prop :=
  ∀ s t : State, step s = .next t →
    (t.mute ≠ s.mute →
      ∃ (op : HostOp) (rest : List HostOp), takes op rest s ∧ ((∃ ch m, op = .setMuted ch m) ∨ op = .reset false)) ∧
    (t.y ≠ s.y ∨ t.master ≠ s.master → s.phase = .mix ∨ ∃ (p : Bool) (rest : List HostOp), takes (.reset p) rest s) ∧
    (s.phase = .mix → t.y = (mix s).y ∧ t.master = (mix s).master)

/-- R205, R217, R238: mute flags and DAC answers reach the outputs and the samples handed over in MIX, and nothing else. With any
other mute flags and any other DAC port behind the block a step leaves the same state but for the outputs; each mute flag is left
as it was in both, or written alike in both; the outputs, a `ClockAndMix` in progress and what is returned can differ in MIX only,
and there only in the samples. The port that stands in the configuration is the model's (log 4, log 5), and so are the job and
the record of returns (log 8, log 9). -/
def Obligations.MutesAndDacAnswersReachOutputsOnly : Prop :=
  ∀ (s t : State) (m : Vector Bool 8) (port : DacPort), step s = .next t →
    ∃ t', step { s with mute := m, cfg := { s.cfg with dacPort := port } } = .next t' ∧
      t' = { t with cfg := { t.cfg with dacPort := port }, mute := t'.mute, y := t'.y, master := t'.master,
                    clock := t'.clock, returns := t'.returns } ∧
      (∀ c : Fin 8, (t.mute[c] = s.mute[c] ∧ t'.mute[c] = m[c]) ∨ t'.mute[c] = t.mute[c]) ∧
      (s.phase ≠ .mix → t'.y = t.y ∧ t'.master = t.master ∧ t'.clock = t.clock ∧ t'.returns = t.returns) ∧
      t'.clock.map ClockJob.remaining = t.clock.map ClockJob.remaining ∧
      (t'.returns = t.returns ∨ ∃ a b a' b', t.returns = .sample a b :: s.returns ∧
        t'.returns = .sample a' b' :: s.returns)

/-- R201, R213: from IDLE with a `Tick` to take, the sequencer's walk of one IDLE, `P_DRAIN` slots, `P_STEPS` steps and one MIX
is exactly the atomic `Tick`, whose sample is returned. That one phase is one step, and where operations and results stand, is the
model's (log 6, log 7, log 8). -/
def Obligations.SequencerWalkIsTheTick : Prop :=
  ∀ (s : State) (rest : List HostOp), s.cfg.legal = true → takes .tick rest s →
    ∃ t, tick (s.withHostOps rest) = .next t ∧
      Sys2Proof.core.run (walkLength s.cfg) s =
        .next { t with returns := .sample t.master t.outputs :: s.returns }

/-- R214: `ClockAndMix(n)` runs `Tick` `n` times and returns the `n` values of `master` and, for each channel, the `n` values of
its output, in tick order. That the job and its operation stand in State is the model's (log 7, log 8, log 9). -/
def Obligations.ClockAndMixRunsItsTicks : Prop :=
  ∀ (s : State) (n : Nat) (rest : List HostOp), s.cfg.legal = true → takes (.clockAndMix n) rest s →
    ∃ (t : State) (master : List Sample) (channels : List (List Sample)),
      repeatOut n tick (s.withHostOps rest) = .next t ∧
      Sys2Proof.core.run (n * walkLength s.cfg + 2) s =
        .next { t with returns := .buffers master channels :: s.returns } ∧
      master.length = n ∧ channels.length = s.cfg.numCh ∧ (∀ b ∈ channels, b.length = n) ∧
      ∀ k < n, ∃ u, repeatOut (k + 1) tick (s.withHostOps rest) = .next u ∧ master[k]? = some u.master ∧
        ∀ ch : Fin 8, ch.val < s.cfg.numCh → (channels[ch.val]?.bind fun b => b[k]?) = some u.y[ch]

/-! ### Invariants -/

/-- R28, R29: the noise register and the reload value are not 0 at power-on, and a step from a state where they are not 0 leaves
them not 0. -/
def Obligations.NoiseRegistersStayNonzero : Prop :=
  State.reset.nz.lfsr ≠ 0#23 ∧ State.reset.nz.reload ≠ 0#23 ∧
  ∀ s t : State, s.nz.lfsr ≠ 0#23 → s.nz.reload ≠ 0#23 → step s = .next t →
    t.nz.lfsr ≠ 0#23 ∧ t.nz.reload ≠ 0#23

/-- R24 to R29, R31, R35, R239 and the model's own places (log 3, log 16): every step keeps the invariant. -/
def Obligations.StepKeepsInvariant : Prop :=
  ∀ s t : State, Inv s → step s = .next t → Inv t

/-- R293: the invariant holds at power-on. -/
def Obligations.ResetHasInvariant : Prop := Inv State.reset

/-- R36, R260: the tables, and with them every parameter, are the same after every step. That the parameters are held in State
is the model's choice (log 1). -/
def Obligations.ParametersAndTablesAreConstant : Prop :=
  ∀ s t : State, step s = .next t →
    t.cfg = s.cfg ∧ (∀ n : Wave, sineAt t.cfg n = sineAt s.cfg n) ∧ ∀ v : Vol, gainAt t.cfg v = gainAt s.cfg v
end

