-- ==== Sys2Proof/Laws/Decode.lean ====
section
/-! SUPPORT. The fields of an address built from its parts, and decoding in terms of them (R81, R89). -/

namespace Sys2Proof

@[simp] theorem addrCh_addrMake : ∀ ch cmd : BitVec 4, addrCh (addrMake ch cmd) = ch := by decide

@[simp] theorem addrCmd_addrMake : ∀ ch cmd : BitVec 4, addrCmd (addrMake ch cmd) = cmd := by decide

/-- An address is built from its two fields (R81). -/
theorem addrMake_fields : ∀ a : Addr, addrMake (addrCh a) (addrCmd a) = a := by decide

/-- The value of an address built from its parts (R92). -/
theorem addrMake_toNat : ∀ ch cmd : BitVec 4, (addrMake ch cmd).toNat = ch.toNat * 16 + cmd.toNat := by decide

theorem addrCh_toNat : ∀ a : Addr, (addrCh a).toNat = a.toNat / 16 := by decide

theorem addrCmd_toNat : ∀ a : Addr, (addrCmd a).toNat = a.toNat % 16 := by decide

/-- Decoding an address given by its parts (R89). -/
theorem decode_addrMake (c : Config) (ch cmd : BitVec 4) (v : Value) :
    decode c ⟨addrMake ch cmd, v⟩ =
      if ch.toNat ≤ 3 then decodeDds (Fin.ofNat 4 ch.toNat) cmd v
      else if ch.toNat = 4 then decodeNoise cmd v
      else if ch.toNat ≤ 7 then
        if c.hasDac (Fin.ofNat 3 (ch.toNat - 5)) then .instr (.dacFwd (Fin.ofNat 3 (ch.toNat - 5)) cmd v)
        else .ignored .absentDac
      else
        if c.hasPrt (Fin.ofNat 8 (ch.toNat - 8)).val then decodePrt (Fin.ofNat 8 (ch.toNat - 8)) cmd v
        else .ignored .absentTimer := by
  simp only [decode, addrCh_addrMake, addrCmd_addrMake]

end Sys2Proof
end

