-- ==== Sys2Proof/Laws/State.lean ====
section
/-! SUPPORT. One lemma per field per update of State, and the reads of a register file after an update. -/

namespace Sys2Proof.Machine

variable (s : State)

/-! ### modifyDds -/

@[simp] theorem State.modifyDds_cfg (i : Fin 4) (f : DdsChannel → DdsChannel) : (s.modifyDds i f).cfg = s.cfg := rfl
@[simp] theorem State.modifyDds_dds (i : Fin 4) (f : DdsChannel → DdsChannel) : (s.modifyDds i f).dds = s.dds.set i (f s.dds[i]) := rfl
@[simp] theorem State.modifyDds_nz (i : Fin 4) (f : DdsChannel → DdsChannel) : (s.modifyDds i f).nz = s.nz := rfl
@[simp] theorem State.modifyDds_prt (i : Fin 4) (f : DdsChannel → DdsChannel) : (s.modifyDds i f).prt = s.prt := rfl
@[simp] theorem State.modifyDds_queue (i : Fin 4) (f : DdsChannel → DdsChannel) : (s.modifyDds i f).queue = s.queue := rfl
@[simp] theorem State.modifyDds_qOvf (i : Fin 4) (f : DdsChannel → DdsChannel) : (s.modifyDds i f).qOvf = s.qOvf := rfl
@[simp] theorem State.modifyDds_mute (i : Fin 4) (f : DdsChannel → DdsChannel) : (s.modifyDds i f).mute = s.mute := rfl
@[simp] theorem State.modifyDds_y (i : Fin 4) (f : DdsChannel → DdsChannel) : (s.modifyDds i f).y = s.y := rfl
@[simp] theorem State.modifyDds_master (i : Fin 4) (f : DdsChannel → DdsChannel) : (s.modifyDds i f).master = s.master := rfl
@[simp] theorem State.modifyDds_phase (i : Fin 4) (f : DdsChannel → DdsChannel) : (s.modifyDds i f).phase = s.phase := rfl
@[simp] theorem State.modifyDds_dacCalls (i : Fin 4) (f : DdsChannel → DdsChannel) : (s.modifyDds i f).dacCalls = s.dacCalls := rfl
@[simp] theorem State.modifyDds_hostOps (i : Fin 4) (f : DdsChannel → DdsChannel) : (s.modifyDds i f).hostOps = s.hostOps := rfl
@[simp] theorem State.modifyDds_clock (i : Fin 4) (f : DdsChannel → DdsChannel) : (s.modifyDds i f).clock = s.clock := rfl
@[simp] theorem State.modifyDds_returns (i : Fin 4) (f : DdsChannel → DdsChannel) : (s.modifyDds i f).returns = s.returns := rfl

/-! ### mapDds -/

@[simp] theorem State.mapDds_cfg (f : Fin 4 → DdsChannel → DdsChannel) : (s.mapDds f).cfg = s.cfg := rfl
@[simp] theorem State.mapDds_dds (f : Fin 4 → DdsChannel → DdsChannel) : (s.mapDds f).dds = Vector.ofFn fun i => f i s.dds[i] := rfl
@[simp] theorem State.mapDds_nz (f : Fin 4 → DdsChannel → DdsChannel) : (s.mapDds f).nz = s.nz := rfl
@[simp] theorem State.mapDds_prt (f : Fin 4 → DdsChannel → DdsChannel) : (s.mapDds f).prt = s.prt := rfl
@[simp] theorem State.mapDds_queue (f : Fin 4 → DdsChannel → DdsChannel) : (s.mapDds f).queue = s.queue := rfl
@[simp] theorem State.mapDds_qOvf (f : Fin 4 → DdsChannel → DdsChannel) : (s.mapDds f).qOvf = s.qOvf := rfl
@[simp] theorem State.mapDds_mute (f : Fin 4 → DdsChannel → DdsChannel) : (s.mapDds f).mute = s.mute := rfl
@[simp] theorem State.mapDds_y (f : Fin 4 → DdsChannel → DdsChannel) : (s.mapDds f).y = s.y := rfl
@[simp] theorem State.mapDds_master (f : Fin 4 → DdsChannel → DdsChannel) : (s.mapDds f).master = s.master := rfl
@[simp] theorem State.mapDds_phase (f : Fin 4 → DdsChannel → DdsChannel) : (s.mapDds f).phase = s.phase := rfl
@[simp] theorem State.mapDds_dacCalls (f : Fin 4 → DdsChannel → DdsChannel) : (s.mapDds f).dacCalls = s.dacCalls := rfl
@[simp] theorem State.mapDds_hostOps (f : Fin 4 → DdsChannel → DdsChannel) : (s.mapDds f).hostOps = s.hostOps := rfl
@[simp] theorem State.mapDds_clock (f : Fin 4 → DdsChannel → DdsChannel) : (s.mapDds f).clock = s.clock := rfl
@[simp] theorem State.mapDds_returns (f : Fin 4 → DdsChannel → DdsChannel) : (s.mapDds f).returns = s.returns := rfl

/-! ### modifyNz -/

@[simp] theorem State.modifyNz_cfg (f : NoiseChannel → NoiseChannel) : (s.modifyNz f).cfg = s.cfg := rfl
@[simp] theorem State.modifyNz_dds (f : NoiseChannel → NoiseChannel) : (s.modifyNz f).dds = s.dds := rfl
@[simp] theorem State.modifyNz_nz (f : NoiseChannel → NoiseChannel) : (s.modifyNz f).nz = f s.nz := rfl
@[simp] theorem State.modifyNz_prt (f : NoiseChannel → NoiseChannel) : (s.modifyNz f).prt = s.prt := rfl
@[simp] theorem State.modifyNz_queue (f : NoiseChannel → NoiseChannel) : (s.modifyNz f).queue = s.queue := rfl
@[simp] theorem State.modifyNz_qOvf (f : NoiseChannel → NoiseChannel) : (s.modifyNz f).qOvf = s.qOvf := rfl
@[simp] theorem State.modifyNz_mute (f : NoiseChannel → NoiseChannel) : (s.modifyNz f).mute = s.mute := rfl
@[simp] theorem State.modifyNz_y (f : NoiseChannel → NoiseChannel) : (s.modifyNz f).y = s.y := rfl
@[simp] theorem State.modifyNz_master (f : NoiseChannel → NoiseChannel) : (s.modifyNz f).master = s.master := rfl
@[simp] theorem State.modifyNz_phase (f : NoiseChannel → NoiseChannel) : (s.modifyNz f).phase = s.phase := rfl
@[simp] theorem State.modifyNz_dacCalls (f : NoiseChannel → NoiseChannel) : (s.modifyNz f).dacCalls = s.dacCalls := rfl
@[simp] theorem State.modifyNz_hostOps (f : NoiseChannel → NoiseChannel) : (s.modifyNz f).hostOps = s.hostOps := rfl
@[simp] theorem State.modifyNz_clock (f : NoiseChannel → NoiseChannel) : (s.modifyNz f).clock = s.clock := rfl
@[simp] theorem State.modifyNz_returns (f : NoiseChannel → NoiseChannel) : (s.modifyNz f).returns = s.returns := rfl

/-! ### mapPrt -/

@[simp] theorem State.mapPrt_cfg (f : Fin 5 → PhaseTimer → PhaseTimer) : (s.mapPrt f).cfg = s.cfg := rfl
@[simp] theorem State.mapPrt_dds (f : Fin 5 → PhaseTimer → PhaseTimer) : (s.mapPrt f).dds = s.dds := rfl
@[simp] theorem State.mapPrt_nz (f : Fin 5 → PhaseTimer → PhaseTimer) : (s.mapPrt f).nz = s.nz := rfl
@[simp] theorem State.mapPrt_prt (f : Fin 5 → PhaseTimer → PhaseTimer) : (s.mapPrt f).prt = Vector.ofFn fun t => if s.cfg.hasPrt t.val then f t s.prt[t] else s.prt[t] := rfl
@[simp] theorem State.mapPrt_queue (f : Fin 5 → PhaseTimer → PhaseTimer) : (s.mapPrt f).queue = s.queue := rfl
@[simp] theorem State.mapPrt_qOvf (f : Fin 5 → PhaseTimer → PhaseTimer) : (s.mapPrt f).qOvf = s.qOvf := rfl
@[simp] theorem State.mapPrt_mute (f : Fin 5 → PhaseTimer → PhaseTimer) : (s.mapPrt f).mute = s.mute := rfl
@[simp] theorem State.mapPrt_y (f : Fin 5 → PhaseTimer → PhaseTimer) : (s.mapPrt f).y = s.y := rfl
@[simp] theorem State.mapPrt_master (f : Fin 5 → PhaseTimer → PhaseTimer) : (s.mapPrt f).master = s.master := rfl
@[simp] theorem State.mapPrt_phase (f : Fin 5 → PhaseTimer → PhaseTimer) : (s.mapPrt f).phase = s.phase := rfl
@[simp] theorem State.mapPrt_dacCalls (f : Fin 5 → PhaseTimer → PhaseTimer) : (s.mapPrt f).dacCalls = s.dacCalls := rfl
@[simp] theorem State.mapPrt_hostOps (f : Fin 5 → PhaseTimer → PhaseTimer) : (s.mapPrt f).hostOps = s.hostOps := rfl
@[simp] theorem State.mapPrt_clock (f : Fin 5 → PhaseTimer → PhaseTimer) : (s.mapPrt f).clock = s.clock := rfl
@[simp] theorem State.mapPrt_returns (f : Fin 5 → PhaseTimer → PhaseTimer) : (s.mapPrt f).returns = s.returns := rfl

/-! ### modifyPrt -/

@[simp] theorem State.modifyPrt_cfg (t : Fin 8) (f : PhaseTimer → PhaseTimer) : (s.modifyPrt t f).cfg = s.cfg := rfl
@[simp] theorem State.modifyPrt_dds (t : Fin 8) (f : PhaseTimer → PhaseTimer) : (s.modifyPrt t f).dds = s.dds := rfl
@[simp] theorem State.modifyPrt_nz (t : Fin 8) (f : PhaseTimer → PhaseTimer) : (s.modifyPrt t f).nz = s.nz := rfl
@[simp] theorem State.modifyPrt_prt (t : Fin 8) (f : PhaseTimer → PhaseTimer) : (s.modifyPrt t f).prt = Vector.ofFn fun u => if s.cfg.hasPrt u.val then (if u.val = t.val then f s.prt[u] else s.prt[u]) else s.prt[u] := rfl
@[simp] theorem State.modifyPrt_queue (t : Fin 8) (f : PhaseTimer → PhaseTimer) : (s.modifyPrt t f).queue = s.queue := rfl
@[simp] theorem State.modifyPrt_qOvf (t : Fin 8) (f : PhaseTimer → PhaseTimer) : (s.modifyPrt t f).qOvf = s.qOvf := rfl
@[simp] theorem State.modifyPrt_mute (t : Fin 8) (f : PhaseTimer → PhaseTimer) : (s.modifyPrt t f).mute = s.mute := rfl
@[simp] theorem State.modifyPrt_y (t : Fin 8) (f : PhaseTimer → PhaseTimer) : (s.modifyPrt t f).y = s.y := rfl
@[simp] theorem State.modifyPrt_master (t : Fin 8) (f : PhaseTimer → PhaseTimer) : (s.modifyPrt t f).master = s.master := rfl
@[simp] theorem State.modifyPrt_phase (t : Fin 8) (f : PhaseTimer → PhaseTimer) : (s.modifyPrt t f).phase = s.phase := rfl
@[simp] theorem State.modifyPrt_dacCalls (t : Fin 8) (f : PhaseTimer → PhaseTimer) : (s.modifyPrt t f).dacCalls = s.dacCalls := rfl
@[simp] theorem State.modifyPrt_hostOps (t : Fin 8) (f : PhaseTimer → PhaseTimer) : (s.modifyPrt t f).hostOps = s.hostOps := rfl
@[simp] theorem State.modifyPrt_clock (t : Fin 8) (f : PhaseTimer → PhaseTimer) : (s.modifyPrt t f).clock = s.clock := rfl
@[simp] theorem State.modifyPrt_returns (t : Fin 8) (f : PhaseTimer → PhaseTimer) : (s.modifyPrt t f).returns = s.returns := rfl

/-! ### withQueue -/

@[simp] theorem State.withQueue_cfg (q : List Command) : (s.withQueue q).cfg = s.cfg := rfl
@[simp] theorem State.withQueue_dds (q : List Command) : (s.withQueue q).dds = s.dds := rfl
@[simp] theorem State.withQueue_nz (q : List Command) : (s.withQueue q).nz = s.nz := rfl
@[simp] theorem State.withQueue_prt (q : List Command) : (s.withQueue q).prt = s.prt := rfl
@[simp] theorem State.withQueue_queue (q : List Command) : (s.withQueue q).queue = q := rfl
@[simp] theorem State.withQueue_qOvf (q : List Command) : (s.withQueue q).qOvf = s.qOvf := rfl
@[simp] theorem State.withQueue_mute (q : List Command) : (s.withQueue q).mute = s.mute := rfl
@[simp] theorem State.withQueue_y (q : List Command) : (s.withQueue q).y = s.y := rfl
@[simp] theorem State.withQueue_master (q : List Command) : (s.withQueue q).master = s.master := rfl
@[simp] theorem State.withQueue_phase (q : List Command) : (s.withQueue q).phase = s.phase := rfl
@[simp] theorem State.withQueue_dacCalls (q : List Command) : (s.withQueue q).dacCalls = s.dacCalls := rfl
@[simp] theorem State.withQueue_hostOps (q : List Command) : (s.withQueue q).hostOps = s.hostOps := rfl
@[simp] theorem State.withQueue_clock (q : List Command) : (s.withQueue q).clock = s.clock := rfl
@[simp] theorem State.withQueue_returns (q : List Command) : (s.withQueue q).returns = s.returns := rfl

/-! ### withOvf -/

@[simp] theorem State.withOvf_cfg (b : Bool) : (s.withOvf b).cfg = s.cfg := rfl
@[simp] theorem State.withOvf_dds (b : Bool) : (s.withOvf b).dds = s.dds := rfl
@[simp] theorem State.withOvf_nz (b : Bool) : (s.withOvf b).nz = s.nz := rfl
@[simp] theorem State.withOvf_prt (b : Bool) : (s.withOvf b).prt = s.prt := rfl
@[simp] theorem State.withOvf_queue (b : Bool) : (s.withOvf b).queue = s.queue := rfl
@[simp] theorem State.withOvf_qOvf (b : Bool) : (s.withOvf b).qOvf = b := rfl
@[simp] theorem State.withOvf_mute (b : Bool) : (s.withOvf b).mute = s.mute := rfl
@[simp] theorem State.withOvf_y (b : Bool) : (s.withOvf b).y = s.y := rfl
@[simp] theorem State.withOvf_master (b : Bool) : (s.withOvf b).master = s.master := rfl
@[simp] theorem State.withOvf_phase (b : Bool) : (s.withOvf b).phase = s.phase := rfl
@[simp] theorem State.withOvf_dacCalls (b : Bool) : (s.withOvf b).dacCalls = s.dacCalls := rfl
@[simp] theorem State.withOvf_hostOps (b : Bool) : (s.withOvf b).hostOps = s.hostOps := rfl
@[simp] theorem State.withOvf_clock (b : Bool) : (s.withOvf b).clock = s.clock := rfl
@[simp] theorem State.withOvf_returns (b : Bool) : (s.withOvf b).returns = s.returns := rfl

/-! ### withMute -/

@[simp] theorem State.withMute_cfg (m : Vector Bool 8) : (s.withMute m).cfg = s.cfg := rfl
@[simp] theorem State.withMute_dds (m : Vector Bool 8) : (s.withMute m).dds = s.dds := rfl
@[simp] theorem State.withMute_nz (m : Vector Bool 8) : (s.withMute m).nz = s.nz := rfl
@[simp] theorem State.withMute_prt (m : Vector Bool 8) : (s.withMute m).prt = s.prt := rfl
@[simp] theorem State.withMute_queue (m : Vector Bool 8) : (s.withMute m).queue = s.queue := rfl
@[simp] theorem State.withMute_qOvf (m : Vector Bool 8) : (s.withMute m).qOvf = s.qOvf := rfl
@[simp] theorem State.withMute_mute (m : Vector Bool 8) : (s.withMute m).mute = m := rfl
@[simp] theorem State.withMute_y (m : Vector Bool 8) : (s.withMute m).y = s.y := rfl
@[simp] theorem State.withMute_master (m : Vector Bool 8) : (s.withMute m).master = s.master := rfl
@[simp] theorem State.withMute_phase (m : Vector Bool 8) : (s.withMute m).phase = s.phase := rfl
@[simp] theorem State.withMute_dacCalls (m : Vector Bool 8) : (s.withMute m).dacCalls = s.dacCalls := rfl
@[simp] theorem State.withMute_hostOps (m : Vector Bool 8) : (s.withMute m).hostOps = s.hostOps := rfl
@[simp] theorem State.withMute_clock (m : Vector Bool 8) : (s.withMute m).clock = s.clock := rfl
@[simp] theorem State.withMute_returns (m : Vector Bool 8) : (s.withMute m).returns = s.returns := rfl

/-! ### withOutputs -/

@[simp] theorem State.withOutputs_cfg (v : Vector Sample 8) (m : Sample) : (s.withOutputs v m).cfg = s.cfg := rfl
@[simp] theorem State.withOutputs_dds (v : Vector Sample 8) (m : Sample) : (s.withOutputs v m).dds = s.dds := rfl
@[simp] theorem State.withOutputs_nz (v : Vector Sample 8) (m : Sample) : (s.withOutputs v m).nz = s.nz := rfl
@[simp] theorem State.withOutputs_prt (v : Vector Sample 8) (m : Sample) : (s.withOutputs v m).prt = s.prt := rfl
@[simp] theorem State.withOutputs_queue (v : Vector Sample 8) (m : Sample) : (s.withOutputs v m).queue = s.queue := rfl
@[simp] theorem State.withOutputs_qOvf (v : Vector Sample 8) (m : Sample) : (s.withOutputs v m).qOvf = s.qOvf := rfl
@[simp] theorem State.withOutputs_mute (v : Vector Sample 8) (m : Sample) : (s.withOutputs v m).mute = s.mute := rfl
@[simp] theorem State.withOutputs_y (v : Vector Sample 8) (m : Sample) : (s.withOutputs v m).y = v := rfl
@[simp] theorem State.withOutputs_master (v : Vector Sample 8) (m : Sample) : (s.withOutputs v m).master = m := rfl
@[simp] theorem State.withOutputs_phase (v : Vector Sample 8) (m : Sample) : (s.withOutputs v m).phase = s.phase := rfl
@[simp] theorem State.withOutputs_dacCalls (v : Vector Sample 8) (m : Sample) : (s.withOutputs v m).dacCalls = s.dacCalls := rfl
@[simp] theorem State.withOutputs_hostOps (v : Vector Sample 8) (m : Sample) : (s.withOutputs v m).hostOps = s.hostOps := rfl
@[simp] theorem State.withOutputs_clock (v : Vector Sample 8) (m : Sample) : (s.withOutputs v m).clock = s.clock := rfl
@[simp] theorem State.withOutputs_returns (v : Vector Sample 8) (m : Sample) : (s.withOutputs v m).returns = s.returns := rfl

/-! ### callDac -/

@[simp] theorem State.callDac_cfg (c : DacCall) : (s.callDac c).cfg = s.cfg := rfl
@[simp] theorem State.callDac_dds (c : DacCall) : (s.callDac c).dds = s.dds := rfl
@[simp] theorem State.callDac_nz (c : DacCall) : (s.callDac c).nz = s.nz := rfl
@[simp] theorem State.callDac_prt (c : DacCall) : (s.callDac c).prt = s.prt := rfl
@[simp] theorem State.callDac_queue (c : DacCall) : (s.callDac c).queue = s.queue := rfl
@[simp] theorem State.callDac_qOvf (c : DacCall) : (s.callDac c).qOvf = s.qOvf := rfl
@[simp] theorem State.callDac_mute (c : DacCall) : (s.callDac c).mute = s.mute := rfl
@[simp] theorem State.callDac_y (c : DacCall) : (s.callDac c).y = s.y := rfl
@[simp] theorem State.callDac_master (c : DacCall) : (s.callDac c).master = s.master := rfl
@[simp] theorem State.callDac_phase (c : DacCall) : (s.callDac c).phase = s.phase := rfl
@[simp] theorem State.callDac_dacCalls (c : DacCall) : (s.callDac c).dacCalls = c :: s.dacCalls := rfl
@[simp] theorem State.callDac_hostOps (c : DacCall) : (s.callDac c).hostOps = s.hostOps := rfl
@[simp] theorem State.callDac_clock (c : DacCall) : (s.callDac c).clock = s.clock := rfl
@[simp] theorem State.callDac_returns (c : DacCall) : (s.callDac c).returns = s.returns := rfl

/-! ### withPhase -/

@[simp] theorem State.withPhase_cfg (p : SeqPhase) : (s.withPhase p).cfg = s.cfg := rfl
@[simp] theorem State.withPhase_dds (p : SeqPhase) : (s.withPhase p).dds = s.dds := rfl
@[simp] theorem State.withPhase_nz (p : SeqPhase) : (s.withPhase p).nz = s.nz := rfl
@[simp] theorem State.withPhase_prt (p : SeqPhase) : (s.withPhase p).prt = s.prt := rfl
@[simp] theorem State.withPhase_queue (p : SeqPhase) : (s.withPhase p).queue = s.queue := rfl
@[simp] theorem State.withPhase_qOvf (p : SeqPhase) : (s.withPhase p).qOvf = s.qOvf := rfl
@[simp] theorem State.withPhase_mute (p : SeqPhase) : (s.withPhase p).mute = s.mute := rfl
@[simp] theorem State.withPhase_y (p : SeqPhase) : (s.withPhase p).y = s.y := rfl
@[simp] theorem State.withPhase_master (p : SeqPhase) : (s.withPhase p).master = s.master := rfl
@[simp] theorem State.withPhase_phase (p : SeqPhase) : (s.withPhase p).phase = p := rfl
@[simp] theorem State.withPhase_dacCalls (p : SeqPhase) : (s.withPhase p).dacCalls = s.dacCalls := rfl
@[simp] theorem State.withPhase_hostOps (p : SeqPhase) : (s.withPhase p).hostOps = s.hostOps := rfl
@[simp] theorem State.withPhase_clock (p : SeqPhase) : (s.withPhase p).clock = s.clock := rfl
@[simp] theorem State.withPhase_returns (p : SeqPhase) : (s.withPhase p).returns = s.returns := rfl

/-! ### withHostOps -/

@[simp] theorem State.withHostOps_cfg (ops : List HostOp) : (s.withHostOps ops).cfg = s.cfg := rfl
@[simp] theorem State.withHostOps_dds (ops : List HostOp) : (s.withHostOps ops).dds = s.dds := rfl
@[simp] theorem State.withHostOps_nz (ops : List HostOp) : (s.withHostOps ops).nz = s.nz := rfl
@[simp] theorem State.withHostOps_prt (ops : List HostOp) : (s.withHostOps ops).prt = s.prt := rfl
@[simp] theorem State.withHostOps_queue (ops : List HostOp) : (s.withHostOps ops).queue = s.queue := rfl
@[simp] theorem State.withHostOps_qOvf (ops : List HostOp) : (s.withHostOps ops).qOvf = s.qOvf := rfl
@[simp] theorem State.withHostOps_mute (ops : List HostOp) : (s.withHostOps ops).mute = s.mute := rfl
@[simp] theorem State.withHostOps_y (ops : List HostOp) : (s.withHostOps ops).y = s.y := rfl
@[simp] theorem State.withHostOps_master (ops : List HostOp) : (s.withHostOps ops).master = s.master := rfl
@[simp] theorem State.withHostOps_phase (ops : List HostOp) : (s.withHostOps ops).phase = s.phase := rfl
@[simp] theorem State.withHostOps_dacCalls (ops : List HostOp) : (s.withHostOps ops).dacCalls = s.dacCalls := rfl
@[simp] theorem State.withHostOps_hostOps (ops : List HostOp) : (s.withHostOps ops).hostOps = ops := rfl
@[simp] theorem State.withHostOps_clock (ops : List HostOp) : (s.withHostOps ops).clock = s.clock := rfl
@[simp] theorem State.withHostOps_returns (ops : List HostOp) : (s.withHostOps ops).returns = s.returns := rfl

/-! ### withClock -/

@[simp] theorem State.withClock_cfg (j : Option ClockJob) : (s.withClock j).cfg = s.cfg := rfl
@[simp] theorem State.withClock_dds (j : Option ClockJob) : (s.withClock j).dds = s.dds := rfl
@[simp] theorem State.withClock_nz (j : Option ClockJob) : (s.withClock j).nz = s.nz := rfl
@[simp] theorem State.withClock_prt (j : Option ClockJob) : (s.withClock j).prt = s.prt := rfl
@[simp] theorem State.withClock_queue (j : Option ClockJob) : (s.withClock j).queue = s.queue := rfl
@[simp] theorem State.withClock_qOvf (j : Option ClockJob) : (s.withClock j).qOvf = s.qOvf := rfl
@[simp] theorem State.withClock_mute (j : Option ClockJob) : (s.withClock j).mute = s.mute := rfl
@[simp] theorem State.withClock_y (j : Option ClockJob) : (s.withClock j).y = s.y := rfl
@[simp] theorem State.withClock_master (j : Option ClockJob) : (s.withClock j).master = s.master := rfl
@[simp] theorem State.withClock_phase (j : Option ClockJob) : (s.withClock j).phase = s.phase := rfl
@[simp] theorem State.withClock_dacCalls (j : Option ClockJob) : (s.withClock j).dacCalls = s.dacCalls := rfl
@[simp] theorem State.withClock_hostOps (j : Option ClockJob) : (s.withClock j).hostOps = s.hostOps := rfl
@[simp] theorem State.withClock_clock (j : Option ClockJob) : (s.withClock j).clock = j := rfl
@[simp] theorem State.withClock_returns (j : Option ClockJob) : (s.withClock j).returns = s.returns := rfl

/-! ### answer -/

@[simp] theorem State.answer_cfg (r : HostReturn) : (s.answer r).cfg = s.cfg := rfl
@[simp] theorem State.answer_dds (r : HostReturn) : (s.answer r).dds = s.dds := rfl
@[simp] theorem State.answer_nz (r : HostReturn) : (s.answer r).nz = s.nz := rfl
@[simp] theorem State.answer_prt (r : HostReturn) : (s.answer r).prt = s.prt := rfl
@[simp] theorem State.answer_queue (r : HostReturn) : (s.answer r).queue = s.queue := rfl
@[simp] theorem State.answer_qOvf (r : HostReturn) : (s.answer r).qOvf = s.qOvf := rfl
@[simp] theorem State.answer_mute (r : HostReturn) : (s.answer r).mute = s.mute := rfl
@[simp] theorem State.answer_y (r : HostReturn) : (s.answer r).y = s.y := rfl
@[simp] theorem State.answer_master (r : HostReturn) : (s.answer r).master = s.master := rfl
@[simp] theorem State.answer_phase (r : HostReturn) : (s.answer r).phase = s.phase := rfl
@[simp] theorem State.answer_dacCalls (r : HostReturn) : (s.answer r).dacCalls = s.dacCalls := rfl
@[simp] theorem State.answer_hostOps (r : HostReturn) : (s.answer r).hostOps = s.hostOps := rfl
@[simp] theorem State.answer_clock (r : HostReturn) : (s.answer r).clock = s.clock := rfl
@[simp] theorem State.answer_returns (r : HostReturn) : (s.answer r).returns = r :: s.returns := rfl

/-! ### Reads of a register file -/

theorem State.modifyDds_get_self (i : Fin 4) (f : DdsChannel → DdsChannel) :
    (s.modifyDds i f).dds[i] = f s.dds[i] := by simp

theorem State.modifyDds_get_other (i j : Fin 4) (f : DdsChannel → DdsChannel) (h : j ≠ i) :
    (s.modifyDds i f).dds[j] = s.dds[j] := by
  have hv : i.val ≠ j.val := fun e => h (Fin.ext e.symm)
  simp [hv]

theorem State.mapDds_get (f : Fin 4 → DdsChannel → DdsChannel) (i : Fin 4) :
    (s.mapDds f).dds[i] = f i s.dds[i] := by simp

theorem State.mapPrt_get (f : Fin 5 → PhaseTimer → PhaseTimer) (t : Fin 5) :
    (s.mapPrt f).prt[t] = if s.cfg.hasPrt t.val then f t s.prt[t] else s.prt[t] := by simp

theorem State.modifyPrt_get (t : Fin 8) (f : PhaseTimer → PhaseTimer) (u : Fin 5) :
    (s.modifyPrt t f).prt[u] = if s.cfg.hasPrt t.val ∧ u.val = t.val then f s.prt[u] else s.prt[u] := by
  by_cases h : u.val = t.val
  · simp [h]
  · simp [h]

/-! ### The fields of a channel after an update of its volume path -/

section
variable (d : DdsChannel) (n : NoiseChannel) (f : VolumePath → VolumePath)

@[simp] theorem DdsChannel.modifyPath_path : (d.modifyPath f).toVolumePath = f d.toVolumePath := rfl
@[simp] theorem DdsChannel.modifyPath_acc : (d.modifyPath f).acc = d.acc := rfl
@[simp] theorem DdsChannel.modifyPath_tacc : (d.modifyPath f).tacc = d.tacc := rfl
@[simp] theorem DdsChannel.modifyPath_freq : (d.modifyPath f).freq = d.freq := rfl
@[simp] theorem DdsChannel.modifyPath_wave : (d.modifyPath f).wave = d.wave := rfl
@[simp] theorem DdsChannel.modifyPath_pw : (d.modifyPath f).pw = d.pw := rfl
@[simp] theorem NoiseChannel.modifyPath_path : (n.modifyPath f).toVolumePath = f n.toVolumePath := rfl
@[simp] theorem NoiseChannel.modifyPath_lfsr : (n.modifyPath f).lfsr = n.lfsr := rfl
@[simp] theorem NoiseChannel.modifyPath_reload : (n.modifyPath f).reload = n.reload := rfl
@[simp] theorem NoiseChannel.modifyPath_acc : (n.modifyPath f).acc = n.acc := rfl
@[simp] theorem NoiseChannel.modifyPath_freq : (n.modifyPath f).freq = n.freq := rfl
@[simp] theorem NoiseChannel.modifyPath_intclk : (n.modifyPath f).intclk = n.intclk := rfl

end

end Sys2Proof.Machine
end

