-- ==== Sys2Proof/Laws/Ops.lean ====
section
/-! SUPPORT. What each shared operation can do, said once: the volume path, the sequencing helpers, the instructions, the
internal step, the mix and the sequencer. -/

namespace Sys2Proof.Machine

/-! ### The volume path -/

theorem writeVolume_immediate (v : Vol) (c : VolumePath) (h : c.zcen = false) :
    writeVolume v c = { c with vol := v } := by simp [writeVolume, h]

theorem writeVolume_deferred (v : Vol) (c : VolumePath) (h : c.zcen = true) :
    writeVolume v c = { c with pvol := v, pvalid := true } := by simp [writeVolume, h]

@[simp] theorem writeVolume_zcen (v : Vol) (c : VolumePath) : (writeVolume v c).zcen = c.zcen := by
  unfold writeVolume; split <;> rfl

@[simp] theorem writeVolume_armed (v : Vol) (c : VolumePath) : (writeVolume v c).armed = c.armed := by
  unfold writeVolume; split <;> rfl

@[simp] theorem writeVolume_w (v : Vol) (c : VolumePath) : (writeVolume v c).w = c.w := by
  unfold writeVolume; split <;> rfl

theorem writeDeferral_on (c : VolumePath) : writeDeferral true c = { c with zcen := true } := by
  simp [writeDeferral]

theorem writeDeferral_off_pending (c : VolumePath) (h : c.pvalid = true) :
    writeDeferral false c = { c with vol := c.pvol, pvalid := false, zcen := false } := by
  simp [writeDeferral, h]

theorem writeDeferral_off_nothing (c : VolumePath) (h : c.pvalid = false) :
    writeDeferral false c = { c with zcen := false } := by simp [writeDeferral, h]

@[simp] theorem writeDeferral_zcen (b : Bool) (c : VolumePath) : (writeDeferral b c).zcen = b := by
  unfold writeDeferral; split <;> rfl

@[simp] theorem writeDeferral_armed (b : Bool) (c : VolumePath) : (writeDeferral b c).armed = c.armed := by
  unfold writeDeferral; split <;> rfl

@[simp] theorem writeDeferral_w (b : Bool) (c : VolumePath) : (writeDeferral b c).w = c.w := by
  unfold writeDeferral; split <;> rfl

theorem zcUpdate_outside (g : Config) (c : VolumePath) (h : outsideWindow g c.w = true) :
    zcUpdate g c = { c with armed := true } := by simp [zcUpdate, h]

theorem zcUpdate_unarmed (g : Config) (c : VolumePath) (h : outsideWindow g c.w = false)
    (ha : c.armed = false) : zcUpdate g c = c := by simp [zcUpdate, h, ha]

theorem zcUpdate_commit (g : Config) (c : VolumePath) (h : outsideWindow g c.w = false)
    (ha : c.armed = true) (hp : c.pvalid = true) :
    zcUpdate g c = { c with armed := false, vol := c.pvol, pvalid := false } := by
  simp [zcUpdate, h, ha, hp]

theorem zcUpdate_crossing (g : Config) (c : VolumePath) (h : outsideWindow g c.w = false)
    (ha : c.armed = true) (hp : c.pvalid = false) : zcUpdate g c = { c with armed := false } := by
  simp [zcUpdate, h, ha, hp]

@[simp] theorem zcUpdate_w (g : Config) (c : VolumePath) : (zcUpdate g c).w = c.w := by
  unfold zcUpdate; split
  · rfl
  · split
    · split <;> rfl
    · rfl

@[simp] theorem zcUpdate_zcen (g : Config) (c : VolumePath) : (zcUpdate g c).zcen = c.zcen := by
  unfold zcUpdate; split
  · rfl
  · split
    · split <;> rfl
    · rfl

/-- After the gate, `armed` says that the waveform value is outside the window (R234). -/
@[simp] theorem zcUpdate_armed (g : Config) (c : VolumePath) :
    (zcUpdate g c).armed = outsideWindow g c.w := by
  cases h : outsideWindow g c.w
  · cases ha : c.armed
    · rw [zcUpdate_unarmed g c h ha, ha]
    · cases hp : c.pvalid
      · rw [zcUpdate_crossing g c h ha hp]
      · rw [zcUpdate_commit g c h ha hp]
  · rw [zcUpdate_outside g c h]

/-- The gate never raises `pvalid` (R234). -/
theorem zcUpdate_pvalid (g : Config) (c : VolumePath) (h : (zcUpdate g c).pvalid = true) :
    c.pvalid = true := by
  cases hp : c.pvalid
  · unfold zcUpdate at h; simp only [hp] at h; split at h
    · simp_all
    · split at h <;> simp_all
  · rfl

/-! ### Sequencing -/

@[simp] theorem andThen_next (s : State) (f : State → Out) : andThen (.next s) f = f s := rfl
@[simp] theorem andThen_refused (r : Refusal) (f : State → Out) :
    andThen (.refused r : Out) f = .refused r := rfl
@[simp] theorem repeatOut_zero (f : State → Out) (s : State) : repeatOut 0 f s = .next s := rfl
theorem repeatOut_succ (n : Nat) (f : State → Out) (s : State) :
    repeatOut (n + 1) f s = andThen (f s) (repeatOut n f) := rfl
@[simp] theorem repeatState_zero (f : State → State) (s : State) : repeatState 0 f s = s := rfl
theorem repeatState_succ (n : Nat) (f : State → State) (s : State) :
    repeatState (n + 1) f s = repeatState n f (f s) := rfl

/-- `f` always has a next state that keeps `P`, so `n` of it do. -/
theorem repeatOut_keeps {f : State → Out} {P : State → State → Prop} (refl : ∀ s, P s s)
    (trans : ∀ s t u, P s t → P t u → P s u) (hf : ∀ s, ∃ t, f s = .next t ∧ P s t) (n : Nat) :
    ∀ s, ∃ t, repeatOut n f s = .next t ∧ P s t := by
  induction n with
  | zero => exact fun s => ⟨s, rfl, refl s⟩
  | succ n ih =>
    intro s
    obtain ⟨t, ht, hst⟩ := hf s
    obtain ⟨u, hu, htu⟩ := ih t
    exact ⟨u, by rw [repeatOut_succ, ht, andThen_next, hu], trans s t u hst htu⟩

/-- `f` keeps `P`, so `n` of it do. -/
theorem repeatState_keeps {f : State → State} {P : State → State → Prop} (refl : ∀ s, P s s)
    (trans : ∀ s t u, P s t → P t u → P s u) (hf : ∀ s, P s (f s)) (n : Nat) :
    ∀ s, P s (repeatState n f s) := by
  induction n with
  | zero => exact refl
  | succ n ih => exact fun s => trans _ _ _ (hf s) (ih (f s))

/-! ### Instructions -/

/-- An instruction always has a next state, and may change the register files of the units and the record of DAC calls
only (R100 to R104, R140 to R144, R170 to R172, R205). -/
theorem exec_next (i : Instr) (s : State) :
    ∃ t, exec i s = .next t ∧
      t = { s with dds := t.dds, nz := t.nz, prt := t.prt, dacCalls := t.dacCalls } := by
  cases i with
  | ddsWave i v =>
    simp only [exec, execDdsWave]
    split
    · exact ⟨_, rfl, rfl⟩
    · exact ⟨_, rfl, rfl⟩
  | nzFreq v =>
    refine ⟨_, rfl, ?_⟩
    split <;> rfl
  | dacFwd k c v =>
    refine ⟨_, rfl, ?_⟩
    split <;> rfl
  | ddsFreq i v => exact ⟨_, rfl, rfl⟩
  | ddsPw i v => exact ⟨_, rfl, rfl⟩
  | ddsVol i v => exact ⟨_, rfl, rfl⟩
  | ddsZcen i v => exact ⟨_, rfl, rfl⟩
  | nzClk v => exact ⟨_, rfl, rfl⟩
  | nzSeed v => exact ⟨_, rfl, rfl⟩
  | nzVol v => exact ⟨_, rfl, rfl⟩
  | nzZcen v => exact ⟨_, rfl, rfl⟩
  | prtFreq t v => exact ⟨_, rfl, rfl⟩
  | prtMask t v => exact ⟨_, rfl, rfl⟩
  | prtEn t v => exact ⟨_, rfl, rfl⟩

/-- Dispatching a command always has a next state, with the frame of `exec_next` (R90, R200). -/
theorem dispatch_next (m : Command) (s : State) :
    ∃ t, dispatch m s = .next t ∧
      t = { s with dds := t.dds, nz := t.nz, prt := t.prt, dacCalls := t.dacCalls } := by
  unfold dispatch
  split
  · exact exec_next _ s
  · exact ⟨s, rfl, rfl⟩

/-- A drain slot always has a next state; the queue loses its head, if it has one (R195). -/
theorem drainSlot_next (s : State) :
    ∃ t, drainSlot s = .next t ∧
      t = { s with dds := t.dds, nz := t.nz, prt := t.prt, dacCalls := t.dacCalls,
                   queue := s.queue.tail } := by
  unfold drainSlot
  split
  next h => exact ⟨s, rfl, by rw [h, List.tail_nil, ← h]⟩
  next m rest h =>
    obtain ⟨t, ht, hf⟩ := dispatch_next m (s.withQueue rest)
    exact ⟨t, ht, by rw [hf, h]; rfl⟩

/-! ### The internal step and the mix -/

/-- The strobes of a phase reset add calls to the record and change nothing else (R177). -/
theorem dacStrobe_frame (P : Mask) (s : State) (k : Fin 3) :
    dacStrobe P s k = { s with dacCalls := (dacStrobe P s k).dacCalls } := by
  unfold dacStrobe; split <;> rfl

theorem dacStrobes_frame (P : Mask) (s : State) :
    dacStrobes P s = { s with dacCalls := (dacStrobes P s).dacCalls } := by
  unfold dacStrobes
  rw [dacStrobe_frame P _ 2, dacStrobe_frame P _ 1, dacStrobe_frame P s 0]

/-- A phase reset changes DDS and noise channels and the record of DAC calls only (R176). -/
theorem applyPhaseReset_frame (P : Mask) (s : State) :
    applyPhaseReset P s =
      { s with dds := (applyPhaseReset P s).dds, nz := (applyPhaseReset P s).nz,
               dacCalls := (applyPhaseReset P s).dacCalls } := by
  unfold applyPhaseReset
  simp only []
  rw [dacStrobes_frame]
  rfl

theorem applyPhaseReset_dds (P : Mask) (s : State) (i : Fin 4) :
    (applyPhaseReset P s).dds[i] = if P.getLsbD i.val then ddsPhaseReset s.dds[i] else s.dds[i] := by
  unfold applyPhaseReset
  simp only []
  rw [dacStrobes_frame]
  simp

theorem applyPhaseReset_nz (P : Mask) (s : State) :
    (applyPhaseReset P s).nz = if P.getLsbD 4 then noisePhaseReset s.nz else s.nz := by
  unfold applyPhaseReset
  simp only []
  rw [dacStrobes_frame]
  simp

/-- An internal step changes the units and the record of DAC calls only (R210). -/
theorem internalStep_frame (s : State) :
    internalStep s =
      { s with dds := (internalStep s).dds, nz := (internalStep s).nz, prt := (internalStep s).prt,
               dacCalls := (internalStep s).dacCalls } := by
  unfold internalStep stepChannels
  rw [applyPhaseReset_frame]
  rfl

/-- A DDS channel over an internal step: the phase reset if a firing timer selects it, then its step (R210). -/
theorem internalStep_dds (s : State) (i : Fin 4) :
    (internalStep s).dds[i] =
      ddsStep s.cfg (if (pulseSet s).getLsbD i.val then ddsPhaseReset s.dds[i] else s.dds[i]) := by
  have hc : (applyPhaseReset (pulseSet s) (advanceTimers s)).cfg = s.cfg := by
    rw [applyPhaseReset_frame]; rfl
  have hd := applyPhaseReset_dds (pulseSet s) (advanceTimers s) i
  unfold internalStep stepChannels
  simp only [State.callDac_dds, State.modifyNz_dds, State.mapDds_get, hc, hd]
  rfl

/-- The noise channel over an internal step (R210). -/
theorem internalStep_nz (s : State) :
    (internalStep s).nz =
      noiseStep s.cfg (if (pulseSet s).getLsbD 4 then noisePhaseReset s.nz else s.nz) := by
  have hc : (applyPhaseReset (pulseSet s) (advanceTimers s)).cfg = s.cfg := by
    rw [applyPhaseReset_frame]; rfl
  have hn := applyPhaseReset_nz (pulseSet s) (advanceTimers s)
  unfold internalStep stepChannels
  simp only [State.callDac_nz, State.modifyNz_nz, State.mapDds_nz, hc, hn]
  rfl

/-- The timers over an internal step (R175). -/
theorem internalStep_prt (s : State) : (internalStep s).prt = (advanceTimers s).prt := by
  unfold internalStep stepChannels
  rw [applyPhaseReset_frame]
  rfl

/-- The mix writes the outputs only (R238). -/
theorem mix_frame (s : State) : mix s = { s with y := (mix s).y, master := (mix s).master } := rfl

/-- The drain slots of a tick always end, with the first `P_DRAIN` entries gone from the queue (R196). -/
theorem drainAll_next (s : State) :
    ∃ t, drainAll s = .next t ∧
      t = { s with dds := t.dds, nz := t.nz, prt := t.prt, dacCalls := t.dacCalls,
                   queue := s.queue.drop s.cfg.drain } := by
  unfold drainAll
  generalize s.cfg.drain = n
  induction n generalizing s with
  | zero => exact ⟨s, rfl, rfl⟩
  | succ n ih =>
    obtain ⟨t, ht, hf⟩ := drainSlot_next s
    obtain ⟨u, hu, hg⟩ := ih t
    refine ⟨u, by rw [repeatOut_succ, ht, andThen_next, hu], ?_⟩
    rw [hg, hf]
    simp

/-- Internal steps change the units and the record of DAC calls only (R212). -/
theorem stepAll_frame (s : State) :
    stepAll s =
      { s with dds := (stepAll s).dds, nz := (stepAll s).nz, prt := (stepAll s).prt,
               dacCalls := (stepAll s).dacCalls } := by
  unfold stepAll
  generalize s.cfg.steps = n
  induction n generalizing s with
  | zero => rfl
  | succ n ih =>
    rw [repeatState_succ, ih (internalStep s), internalStep_frame s]

/-! ### The sequencer -/

/-- One step, by phase (R201): the phase moves and the phase's action is done. -/
theorem step_idle (s : State) (h : s.phase = .idle) : step s = idleAction s := by
  simp [step, sequence, h]
theorem step_drain (s : State) (j : Nat) (h : s.phase = .drain j) :
    step s = drainSlot (s.withPhase (afterDrain s.cfg j)) := by simp [step, sequence, drainAction, h]
theorem step_step (s : State) (n : Nat) (h : s.phase = .step n) :
    step s = .next (internalStep (s.withPhase (afterStep s.cfg n))) := by
  simp [step, sequence, stepAction, h]
theorem step_mix (s : State) (h : s.phase = .mix) :
    step s = .next (deliver (mix (s.withPhase .idle))) := by simp [step, sequence, mixAction, h]

/-- IDLE with the host waiting to be served (R201). -/
theorem step_host (s : State) (op : HostOp) (rest : List HostOp) (h : s.phase = .idle)
    (hc : s.clock = none) (ho : s.hostOps = op :: rest) : step s = hostOp op (s.withHostOps rest) := by
  simp [step_idle s h, idleAction, hc, ho]

/-- Handing over a sample changes the `ClockAndMix` in progress or the record of returns only (R213, R214). -/
theorem deliver_frame (s : State) :
    deliver s = { s with clock := (deliver s).clock, returns := (deliver s).returns } := by
  unfold deliver; split <;> rfl

/-! ### Reset -/

/-- A reset changes the units, the mute flags, the outputs and the record of DAC calls only (R290, R292). -/
theorem resetBlock_frame (p : Bool) (s : State) :
    resetBlock p s =
      { s with dds := (resetBlock p s).dds, nz := (resetBlock p s).nz, prt := (resetBlock p s).prt,
               mute := resetMute p s, y := resetOutputs s, master := 0#16, dacCalls := .reset p :: s.dacCalls } := rfl

/-- A DDS channel after a reset depends on its old volume path only through `ResetVol` (R290, R291). -/
theorem resetBlock_dds (p : Bool) (s : State) (i : Fin 4) :
    (resetBlock p s).dds[i] = DdsChannel.cleared (resetVolume s.cfg s.dds[i].toVolumePath) := by
  simp [resetBlock, resetUnits]

/-- The noise channel after a reset (R290, R291). -/
theorem resetBlock_nz (p : Bool) (s : State) :
    (resetBlock p s).nz = NoiseChannel.cleared (resetVolume s.cfg s.nz.toVolumePath) := rfl

/-- A channel just reset holds no pending code, so a further reset gives it 255 (R290, R291; log 17). -/
@[simp] theorem resetVolume_cleared (g : Config) (v : Vol) : resetVolume g (VolumePath.cleared v) = 255#8 := by
  simp [resetVolume, VolumePath.cleared]

end Sys2Proof.Machine
end

