-- ==== Sys2Proof/Laws/Frames.lean ====
section
/-! SUPPORT. The frames of the shared updates, in the terms of Safety.lean, and the fields the commands read. -/

namespace Sys2Proof.Machine

theorem State.modifyDds_only (s : State) (i : Fin 4) (f : DdsChannel → DdsChannel) :
    OnlyDds i s (s.modifyDds i f) :=
  ⟨fun j h => s.modifyDds_get_other i j f h, rfl⟩

theorem State.modifyNz_only (s : State) (f : NoiseChannel → NoiseChannel) : OnlyNz s (s.modifyNz f) := rfl

theorem State.modifyPrt_only (s : State) (t : Fin 8) (f : PhaseTimer → PhaseTimer) :
    OnlyPrt t.val s (s.modifyPrt t f) :=
  ⟨fun j h => by rw [State.modifyPrt_get, if_neg fun e => h e.2], rfl⟩

/-- A command to a timer that does not exist changes nothing (R83; log 13). -/
theorem State.modifyPrt_absent (s : State) (t : Fin 8) (f : PhaseTimer → PhaseTimer)
    (h : s.cfg.numPrt.num ≤ t.val) : s.modifyPrt t f = s := by
  have hp : (s.modifyPrt t f).prt = s.prt := by
    apply Vector.ext
    intro j hj
    have hg := State.modifyPrt_get s t f ⟨j, hj⟩
    rw [if_neg fun e => absurd e.1 (by simp [Config.hasPrt, h])] at hg
    exact hg
  show { s with prt := (s.modifyPrt t f).prt } = s
  rw [hp]

theorem State.callDac_only (s : State) (c : DacCall) : OnlyDacCalls s (s.callDac c) := rfl

/-- `value[0]` in exact arithmetic (R88). -/
theorem bitField_eq (v : Value) : bitField v = decide (v.toNat % 2 = 1) := by
  simp [bitField, BitVec.getLsbD, Nat.testBit_zero]

theorem freqField_toNat (v : Value) : (freqField v).toNat = v.toNat % 2 ^ 28 := by simp [freqField]
theorem pwField_toNat (v : Value) : (pwField v).toNat = v.toNat % 2 ^ 10 := by simp [pwField]
theorem volField_toNat (v : Value) : (volField v).toNat = v.toNat % 2 ^ 8 := by simp [volField]
theorem maskField_toNat (v : Value) : (maskField v).toNat = v.toNat % 2 ^ 8 := by simp [maskField]

/-- The waveform a code names has that code (R87). -/
theorem waveformOfCode_code (n : Nat) (wf : Waveform) (h : waveformOfCode n = some wf) :
    (waveformCode wf).toNat = n ∧ n ≤ 5 := by
  unfold waveformOfCode at h
  split at h <;> cases h <;> decide

/-! ### Commands applied straight to the block (R68, R197) -/

@[simp] theorem applyAll_nil (s : State) : applyAll [] s = .next s := rfl
theorem applyAll_cons (m : Command) (ms : List Command) (s : State) :
    applyAll (m :: ms) s = andThen (dispatch m s) (applyAll ms) := rfl
@[simp] theorem applyTicks_zero (ms : List Command) (s : State) : applyTicks 0 ms s = .next s := rfl
theorem applyTicks_succ (n : Nat) (ms : List Command) (s : State) :
    applyTicks (n + 1) ms s =
      andThen (applyAll (ms.take s.cfg.drain) s) fun t => applyTicks n (ms.drop s.cfg.drain) (mix (stepAll t)) := rfl

/-- Applying commands always has a next state, with the frame of an instruction. -/
theorem applyAll_next (ms : List Command) (s : State) :
    ∃ t, applyAll ms s = .next t ∧
      t = { s with dds := t.dds, nz := t.nz, prt := t.prt, dacCalls := t.dacCalls } := by
  induction ms generalizing s with
  | nil => exact ⟨s, rfl, rfl⟩
  | cons m ms ih =>
    obtain ⟨t, ht, hf⟩ := dispatch_next m s
    obtain ⟨u, hu, hg⟩ := ih t
    exact ⟨u, by rw [applyAll_cons, ht, andThen_next, hu], by rw [hg, hf]⟩

end Sys2Proof.Machine
end

