-- ==== Sys2Proof/Laws/PerInstr.lean ====
section
/-! SUPPORT. A statement about each instruction's encoding, one lemma per constructor: the channel index, the command type
and the value of the command that spells it (R85, R92). -/

namespace Sys2Proof.Laws.EncodedFields

/-- The command `m` has channel index `ch`, command type `cmd` and value `v`. -/
def fields (m : Command) (ch cmd : Nat) (v : Value) : Prop :=
  (addrCh m.addr).toNat = ch ∧ (addrCmd m.addr).toNat = cmd ∧ m.value = v

/-- The channel index and command type of R83 and R85, and the operand itself as the value. -/
def Statement (i : Instr) : Prop :=
  match i with
  | .ddsFreq n v => fields (encode i) n.val 0 v
  | .ddsWave n v => fields (encode i) n.val 1 v
  | .ddsPw n v => fields (encode i) n.val 2 v
  | .ddsVol n v => fields (encode i) n.val 3 v
  | .ddsZcen n v => fields (encode i) n.val 4 v
  | .nzFreq v => fields (encode i) 4 0 v
  | .nzClk v => fields (encode i) 4 1 v
  | .nzSeed v => fields (encode i) 4 2 v
  | .nzVol v => fields (encode i) 4 3 v
  | .nzZcen v => fields (encode i) 4 4 v
  | .dacFwd k cmd v => fields (encode i) (5 + k.val) cmd.toNat v
  | .prtFreq t v => fields (encode i) (8 + t.val) 0 v
  | .prtMask t v => fields (encode i) (8 + t.val) 1 v
  | .prtEn t v => fields (encode i) (8 + t.val) 2 v

/-- A command built from a channel index below 16 and a command type has those fields. -/
theorem fields_addrMake (ch : Nat) (h : ch < 16) (cmd : BitVec 4) (v : Value) :
    fields ⟨addrMake (BitVec.ofNat 4 ch) cmd, v⟩ ch cmd.toNat v :=
  ⟨by rw [addrCh_addrMake, BitVec.toNat_ofNat, Nat.mod_eq_of_lt h], by rw [addrCmd_addrMake], rfl⟩

theorem ddsFreq (n : Fin 4) (v : Value) : Statement (.ddsFreq n v) := fields_addrMake n.val (by omega) 0#4 v
theorem ddsWave (n : Fin 4) (v : Value) : Statement (.ddsWave n v) := fields_addrMake n.val (by omega) 1#4 v
theorem ddsPw (n : Fin 4) (v : Value) : Statement (.ddsPw n v) := fields_addrMake n.val (by omega) 2#4 v
theorem ddsVol (n : Fin 4) (v : Value) : Statement (.ddsVol n v) := fields_addrMake n.val (by omega) 3#4 v
theorem ddsZcen (n : Fin 4) (v : Value) : Statement (.ddsZcen n v) := fields_addrMake n.val (by omega) 4#4 v
theorem nzFreq (v : Value) : Statement (.nzFreq v) := fields_addrMake 4 (by omega) 0#4 v
theorem nzClk (v : Value) : Statement (.nzClk v) := fields_addrMake 4 (by omega) 1#4 v
theorem nzSeed (v : Value) : Statement (.nzSeed v) := fields_addrMake 4 (by omega) 2#4 v
theorem nzVol (v : Value) : Statement (.nzVol v) := fields_addrMake 4 (by omega) 3#4 v
theorem nzZcen (v : Value) : Statement (.nzZcen v) := fields_addrMake 4 (by omega) 4#4 v
theorem dacFwd (k : Fin 3) (cmd : CmdType) (v : Value) : Statement (.dacFwd k cmd v) :=
  fields_addrMake (5 + k.val) (by omega) cmd v
theorem prtFreq (t : Fin 8) (v : Value) : Statement (.prtFreq t v) := fields_addrMake (8 + t.val) (by omega) 0#4 v
theorem prtMask (t : Fin 8) (v : Value) : Statement (.prtMask t v) := fields_addrMake (8 + t.val) (by omega) 1#4 v
theorem prtEn (t : Fin 8) (v : Value) : Statement (.prtEn t v) := fields_addrMake (8 + t.val) (by omega) 2#4 v

end Sys2Proof.Laws.EncodedFields
end

