-- ==== Sys2Proof/Tests/Slice0.lean ====
section
/-! SUPPORT. The model's own tests: the well-formedness smoke test, every constructor's decoding from a word written out from
the spec's encoding, one-step vectors from the rules and from 95_test_vectors.md, and a state that meets the hypotheses of each
statement that has some. -/

namespace Sys2Proof.Tests

open Sys2Proof.Machine

/-! ### Helpers -/

/-- The next state of an outcome, if it has one. -/
def nextOf (o : Out) : Option State :=
  match o with
  | .next s => some s
  | .fault _ => none
  | .refused _ => none

/-- The refusal of an outcome, if it is one. -/
def refusalOf (o : Out) : Option Refusal :=
  match o with
  | .next _ => none
  | .fault _ => none
  | .refused r => some r

/-- The power-on state with the DAC port of 95_test_vectors.md, which answers 2047. -/
def bench : State :=
  { State.reset with cfg := { Config.default with dacPort := .constant (Vector.replicate 3 2047#12) } }

/-- `bench` with three DAC channels and five timers. -/
def benchLarge : State := { bench with cfg := { bench.cfg with numDac := .three, numPrt := .five } }

/-- `bench` with DDS channel 0 changed. -/
def withDds0 (f : DdsChannel → DdsChannel) : State := bench.modifyDds 0 f

/-- `bench` with the noise channel changed. -/
def withNz (f : NoiseChannel → NoiseChannel) : State := bench.modifyNz f

/-- `bench` with a host operation to take. -/
def hosted (op : HostOp) : State := bench.withHostOps [op]

/-- DDS channel 0 after an instruction. -/
def dds0After (i : Instr) (s : State) : Option DdsChannel := (nextOf (exec i s)).map fun t => t.dds[0]

/-- The noise channel after an instruction. -/
def nzAfter (i : Instr) (s : State) : Option NoiseChannel := (nextOf (exec i s)).map fun t => t.nz

/-- A 40-bit word from its channel index, command type and value (R80). -/
def word (ch cmd : BitVec 4) (v : Value) : BitVec 40 := (ch ++ cmd : BitVec 8) ++ v

/-! ### Well-formedness: an ill-formed term for each check (R83) -/

theorem test_illformed_dac : (Instr.dacFwd 2 0#4 0#32).wellFormed Config.default = false := by decide
theorem test_illformed_prtFreq : (Instr.prtFreq 4 0#32).wellFormed Config.default = false := by decide
theorem test_illformed_prtMask : (Instr.prtMask 7 0#32).wellFormed Config.default = false := by decide
theorem test_illformed_prtEn : (Instr.prtEn 5 0#32).wellFormed benchLarge.cfg = false := by decide
theorem test_wellformed_last_units :
    (Instr.dacFwd 1 15#4 7#32).wellFormed Config.default = true ∧
    (Instr.dacFwd 2 0#4 7#32).wellFormed benchLarge.cfg = true ∧
    (Instr.prtEn 3 1#32).wellFormed Config.default = true ∧
    (Instr.prtFreq 4 1#32).wellFormed benchLarge.cfg = true := by decide

/-! ### Decoding: one word for each constructor, from R80 and R85 -/

theorem test_decode_ddsFreq : decode Config.default (Command.ofWord (word 0b0010#4 0b0000#4 0x01000000#32)) =
    .instr (.ddsFreq 2 0x01000000#32) := by decide
theorem test_decode_ddsWave : decode Config.default (Command.ofWord (word 0b0000#4 0b0001#4 5#32)) =
    .instr (.ddsWave 0 5#32) := by decide
theorem test_decode_ddsPw : decode Config.default (Command.ofWord (word 0b0001#4 0b0010#4 256#32)) =
    .instr (.ddsPw 1 256#32) := by decide
theorem test_decode_ddsVol : decode Config.default (Command.ofWord (word 0b0011#4 0b0011#4 0xEF#32)) =
    .instr (.ddsVol 3 0xEF#32) := by decide
theorem test_decode_ddsZcen : decode Config.default (Command.ofWord (word 0b0011#4 0b0100#4 1#32)) =
    .instr (.ddsZcen 3 1#32) := by decide
theorem test_decode_nzFreq : decode Config.default (Command.ofWord (word 0b0100#4 0b0000#4 0xFFFFFFFF#32)) =
    .instr (.nzFreq 0xFFFFFFFF#32) := by decide
theorem test_decode_nzClk : decode Config.default (Command.ofWord (word 0b0100#4 0b0001#4 1#32)) =
    .instr (.nzClk 1#32) := by decide
theorem test_decode_nzSeed : decode Config.default (Command.ofWord (word 0b0100#4 0b0010#4 0#32)) =
    .instr (.nzSeed 0#32) := by decide
theorem test_decode_nzVol : decode Config.default (Command.ofWord (word 0b0100#4 0b0011#4 128#32)) =
    .instr (.nzVol 128#32) := by decide
theorem test_decode_nzZcen : decode Config.default (Command.ofWord (word 0b0100#4 0b0100#4 0#32)) =
    .instr (.nzZcen 0#32) := by decide
theorem test_decode_dacFwd : decode Config.default (Command.ofWord (word 0b0110#4 0b0011#4 7#32)) =
    .instr (.dacFwd 1 3#4 7#32) := by decide
theorem test_decode_prtFreq : decode Config.default (Command.ofWord (word 0b1000#4 0b0000#4 0x40000000#32)) =
    .instr (.prtFreq 0 0x40000000#32) := by decide
theorem test_decode_prtMask : decode Config.default (Command.ofWord (word 0b1001#4 0b0001#4 0x11#32)) =
    .instr (.prtMask 1 0x11#32) := by decide
theorem test_decode_prtEn : decode Config.default (Command.ofWord (word 0b1011#4 0b0010#4 1#32)) =
    .instr (.prtEn 3 1#32) := by decide

/-- 95_test_vectors.md L2.1: the ignored addresses at the edges of the map, and their neighbours. -/
theorem test_decode_edges :
    decode Config.default ⟨0x05#8, 0#32⟩ = .ignored .ddsCommandType ∧
    decode Config.default ⟨0x45#8, 0#32⟩ = .ignored .noiseCommandType ∧
    decode Config.default ⟨0x6F#8, 0#32⟩ = .instr (.dacFwd 1 15#4 0#32) ∧
    decode Config.default ⟨0x70#8, 0#32⟩ = .ignored .absentDac ∧
    decode Config.default ⟨0x83#8, 0#32⟩ = .ignored .timerCommandType ∧
    decode Config.default ⟨0xC0#8, 0#32⟩ = .ignored .absentTimer ∧
    decode Config.default ⟨0xFF#8, 0#32⟩ = .ignored .absentTimer := by decide
theorem test_decode_edges_large :
    decode benchLarge.cfg ⟨0x70#8, 0#32⟩ = .instr (.dacFwd 2 0#4 0#32) ∧
    decode benchLarge.cfg ⟨0xC0#8, 0#32⟩ = .instr (.prtFreq 4 0#32) ∧
    decode benchLarge.cfg ⟨0xD1#8, 0#32⟩ = .ignored .absentTimer := by decide

/-- Words numbered as spec/opcode_table.json numbers them; the word 0x40 is NZ.FREQ, the row before DAC.FWD (log 21). -/
theorem test_decode_table_words :
    decodeTableWord 8 0x01 = some (.ddsWave 0 0#32) ∧ decodeTableWord 8 0x40 = some (.nzFreq 0#32) ∧
    decodeTableWord 8 0x50 = some (.dacFwd 0 0#4 0#32) ∧ decodeTableWord 8 0x82 = some (.prtEn 0 0#32) ∧
    decodeTableWord 8 0x0F = none ∧ decodeTableWord 8 0xFF01 = some (.ddsWave 0 0#32) := by decide

/-- R94: the expansions, word by word. -/
theorem test_pseudo_expansions :
    (Pseudo.ddsTone 0 0x02000000#32 3#32 255#32).expand.map Command.toWord =
      [0x0002000000#40, 0x0100000003#40, 0x03000000FF#40] ∧
    (Pseudo.prtSync 0 0x04000000#32 0x11#32).expand.map Command.toWord =
      [0x8004000000#40, 0x8100000011#40, 0x8200000001#40] ∧
    (Pseudo.nzInit 0#32 5#32).expand.map Command.toWord = [0x4200000000#40, 0x4100000000#40, 0x4000000005#40] ∧
    (Pseudo.prtStop 2).expand.map Command.toWord = [0xA200000000#40] ∧
    (Pseudo.ddsSilence 3).expand.map Command.toWord = [0x3300000000#40] ∧
    Pseudo.nop.expand.map Command.toWord = [0x0F00000000#40] := by decide
theorem test_program_ops :
    programOps [.command (.ddsFreq 2 1#32), .tick 2, .mute 1 1, .reset true] =
      [.enqueue 0x20 1, .tick, .tick, .setMuted 1 1, .reset true] := by decide

/-! ### Tables (R261, R262) -/

theorem test_sine_points :
    sineAt Config.default 0#10 = 512#10 ∧ sineAt Config.default 256#10 = 1023#10 ∧
    sineAt Config.default 768#10 = 1#10 ∧ sineAt Config.default 405#10 = 823#10 := by decide
theorem test_sine_sum : (sineRows.map List.sum).sum = 523778 ∧ sineRows.map List.length = List.replicate 64 16 := by
  decide
theorem test_gain_sum : (gainRows.map List.sum).sum = 1545637 ∧ gainRows.map List.length = List.replicate 16 16 := by
  decide
theorem test_gain_points :
    gainAt Config.default 255#8 = 65536#17 ∧ gainAt Config.default 239#8 = 32768#17 ∧
    gainAt Config.default 200#8 = 6049#17 ∧ gainAt Config.default 0#8 = 0#17 := by decide

/-! ### Commands (95_test_vectors.md L2.2, L2.4; R100 to R104, R140 to R144, R170 to R172, R205) -/

theorem test_ddsFreq_field : (dds0After (.ddsFreq 0 0x10000001#32) bench).map (·.freq) = some 1#28 := by decide
theorem test_ddsFreq_other : (nextOf (exec (.ddsFreq 0 7#32) bench)).map (fun t => t.dds[1]) = some bench.dds[1] := by
  decide
theorem test_ddsWave_pwm : (dds0After (.ddsWave 0 5#32) bench).map (·.wave) = some .pwm := by decide
theorem test_ddsWave_ignored : nextOf (exec (.ddsWave 0 6#32) (withDds0 fun d => { d with wave := .sine })) =
    some (withDds0 fun d => { d with wave := .sine }) := by decide
theorem test_ddsPw_field : (dds0After (.ddsPw 0 0xABC#32) bench).map (·.pw) = some 700#10 := by decide
theorem test_ddsVol_now : (dds0After (.ddsVol 0 0x1EF#32) bench).map (·.toVolumePath) =
    some { VolumePath.cleared 255#8 with vol := 239#8 } := by decide
theorem test_ddsVol_deferred :
    (dds0After (.ddsVol 0 50#32) (withDds0 fun d => { d with zcen := true, pvalid := true, pvol := 100#8 })).map
      (·.toVolumePath) =
    some { VolumePath.cleared 255#8 with zcen := true, pvalid := true, pvol := 50#8 } := by decide
theorem test_ddsZcen_commits :
    (dds0After (.ddsZcen 0 2#32) (withDds0 fun d => { d with zcen := true, pvalid := true, pvol := 100#8 })).map
      (·.toVolumePath) = some { VolumePath.cleared 100#8 with pvol := 100#8 } := by decide
theorem test_ddsZcen_on : (dds0After (.ddsZcen 0 0xFFFFFFFF#32) bench).map (·.toVolumePath) =
    some { VolumePath.cleared 255#8 with zcen := true } := by decide
theorem test_nzFreq_sets : (nzAfter (.nzFreq 0x1234#32) bench).map (·.freq) = some 0x1234#32 := by decide
theorem test_nzFreq_lost :
    (nzAfter (.nzFreq 0x9999#32) (withNz fun n => { n with freq := 0x1234#32, intclk := true })).map (·.freq) =
      some 0x1234#32 := by decide
theorem test_nzClk_bit : (nzAfter (.nzClk 0xFFFFFFFE#32) (withNz fun n => { n with intclk := true })).map (·.intclk) =
    some false := by decide
theorem test_nzClk_on : (nzAfter (.nzClk 3#32) (withNz fun n => { n with freq := 9#32, acc := 8#32 })) =
    some { NoiseChannel.cleared 255#8 with freq := 9#32, acc := 8#32, intclk := true } := by decide
theorem test_nzSeed_coerced : (nzAfter (.nzSeed 0x00800000#32) bench).map (fun n => (n.lfsr, n.reload)) =
    some (1#23, 1#23) := by decide
theorem test_nzSeed_field : (nzAfter (.nzSeed 0x00800005#32) bench).map (fun n => (n.lfsr, n.reload)) =
    some (5#23, 5#23) := by decide
theorem test_nzVol_deferred : (nzAfter (.nzVol 128#32) (withNz fun n => { n with zcen := true })).map
    (·.toVolumePath) = some { VolumePath.cleared 255#8 with zcen := true, pvol := 128#8, pvalid := true } := by decide
theorem test_nzVol_now : (nzAfter (.nzVol 128#32) bench).map (·.vol) = some 128#8 := by decide
theorem test_nzZcen_commits :
    (nzAfter (.nzZcen 0#32) (withNz fun n => { n with zcen := true, pvalid := true, pvol := 10#8 })).map
      (·.toVolumePath) = some { VolumePath.cleared 10#8 with pvol := 10#8 } := by decide
theorem test_nzZcen_off_nothing : (nzAfter (.nzZcen 0#32) (withNz fun n => { n with zcen := true })).map
    (·.toVolumePath) = some (VolumePath.cleared 255#8) := by decide
theorem test_dacFwd_calls : (nextOf (exec (.dacFwd 1 3#4 7#32) bench)).map (·.dacCalls) =
    some [.write 1 3#4 7#32, .reset false] := by decide
theorem test_dacFwd_absent : nextOf (exec (.dacFwd 2 3#4 7#32) bench) = some bench := by decide
theorem test_prtFreq_sets : (nextOf (exec (.prtFreq 3 0x40000000#32) bench)).map (fun t => (t.prt[3].freq, t.prt[2])) =
    some (0x40000000#32, PhaseTimer.cleared) := by decide
theorem test_prtFreq_absent : nextOf (exec (.prtFreq 4 1#32) bench) = some bench := by decide
theorem test_prtMask_field : (nextOf (exec (.prtMask 4 0x1FF#32) benchLarge)).map (fun t => t.prt[4].mask) =
    some 0xFF#8 := by decide
theorem test_prtEn_bit : (nextOf (exec (.prtEn 2 0xFFFFFFFE#32) (bench.modifyPrt 2 fun p => { p with en := true }))).map
    (fun t => t.prt[2].en) = some false := by decide
theorem test_prtEn_on : (nextOf (exec (.prtEn 3 1#32) bench)).map (fun t => t.prt[3].en) = some true := by decide

/-! ### Clock steps -/

/-- 95_test_vectors.md L2.3. -/
def waved (wave : Waveform) (acc : Phase28) : DdsChannel := { DdsChannel.cleared 255#8 with wave := wave, acc := acc }
theorem test_triangle_points :
    [0#28, 0x20000#28, 0x07FE0000#28, 0x08000000#28, 0x08020000#28, 0x0C000000#28, 0x0FFE0000#28].map
      (fun a => waveMux Config.default (waved .triangle a)) =
      [0#10, 1#10, 1023#10, 1023#10, 1022#10, 511#10, 0#10] := by decide
theorem test_square_points :
    [0x07FFFFFF#28, 0x08000000#28].map (fun a => waveMux Config.default (waved .squareFull a)) = [1023#10, 0#10] ∧
    [0x07FFFFFF#28, 0x08000000#28].map (fun a => waveMux Config.default (waved .squareHalf a)) = [511#10, 0#10] := by
  decide
theorem test_sine_and_none_points :
    [0x0003FFFF#28, 0x04000000#28, 0x01000000#28].map (fun a => waveMux Config.default (waved .sine a)) =
      [512#10, 1023#10, 707#10] ∧ waveMux Config.default (waved .none 0x01000000#28) = 0#10 := by decide
theorem test_pwm_points :
    [0x0FFBFFFF#28, 0x0FFC0000#28].map (fun a => waveMux Config.default
      { DdsChannel.cleared 255#8 with wave := .pwm, pw := 1023#10, tacc := a }) = [1023#10, 0#10] := by decide
/-- 95_test_vectors.md L2.3, the step vector for wave 5. -/
theorem test_pwm_step :
    (fun d => (d.tacc, d.acc, d.w)) (ddsStep Config.default
      { waved .pwm 0x01234567#28 with freq := 0x04000000#28, pw := 512#10, tacc := 0x0C000000#28 }) =
      (0#28, 0x01234567#28, 1023#10) := by decide

/-- 95_test_vectors.md L2.7: 17 is outside the window, 16 inside. -/
def falling : DdsChannel :=
  { waved .triangle 0x0FDC0000#28 with
    freq := 0x00020000#28, zcen := true, armed := true, pvol := 100#8, pvalid := true, w := 17#10 }
theorem test_gate_boundary :
    (fun d => (d.w, d.vol, d.pvalid, d.armed)) (ddsStep Config.default { falling with acc := 0x0FDA0000#28 }) =
      (17#10, 255#8, true, true) ∧
    (fun d => (d.w, d.vol, d.pvalid, d.armed)) (ddsStep Config.default falling) =
      (16#10, 100#8, false, false) := by decide

/-- 95_test_vectors.md L2.4: the shifts at the taps. -/
def ticking (lfsr : Lfsr) : NoiseChannel :=
  { NoiseChannel.cleared 255#8 with lfsr := lfsr, freq := 0x80000000#32, acc := 0x80000000#32 }
theorem test_noise_taps :
    [0x40000#23, 0x20000#23, 0x400000#23, 0x420000#23].map (fun l =>
      (fun n => (n.lfsr, n.w, n.acc)) (noiseStep Config.default (ticking l))) =
      [(0x80000#23, 0#10, 0#32), (0x40001#23, 1023#10, 0#32), (1#23, 1023#10, 0#32), (0x40000#23, 0#10, 0#32)] := by
  decide
/-- No shift one below the overflow; R150. -/
theorem test_noise_below_overflow :
    (fun n => (n.lfsr, n.acc)) (noiseStep Config.default { ticking 1#23 with acc := 0x7FFFFFFF#32 }) =
      (1#23, 0xFFFFFFFF#32) := by decide
/-- R157: shifts 18, 23 and 36 from state 1 set bit 0. -/
theorem test_lfsr_sequence :
    lfsrShift^[18] 1#23 = 0x40001#23 ∧ lfsrShift^[23] 1#23 = 0x21#23 ∧ lfsrShift^[36] 1#23 = 0x42001#23 ∧
    lfsrShift^[40] 1#23 = 0x420010#23 := by decide

/-- 95_test_vectors.md L1.5, its internal step: mask 0x11 resets DDS 0 and the noise register, then all advance. -/
def selective : State :=
  ((bench.mapDds fun i d => if i.val < 2 then
      { d with acc := 0x05555555#28, freq := 0x01000000#28, wave := .sine, vol := 200#8 } else d).modifyNz
    fun n => { n with lfsr := 0x12345#23, reload := 0x5A5A5#23, vol := 100#8 }).modifyPrt 0
    fun _ => ⟨0xC0000000#32, 0x40000000#32, 0x11#8, true⟩
theorem test_phase_reset_scope :
    (fun t => (t.prt[0].acc, t.dds[0].acc, t.dds[0].w, t.dds[1].acc, t.dds[1].w, t.nz.lfsr)) (internalStep selective) =
      (0#32, 0x01000000#28, 707#10, 0x06555555#28, 823#10, 0x5A5A5#23) := by decide
theorem test_phase_reset_tick : (nextOf (tick selective)).map (fun t => (t.y[0], t.y[1], t.master)) =
    some (65#16, 75#16, 140#16) := by decide
/-- A firing with mask 0xE0 strobes the DAC channels there are, before that step's `DacStep` (R176, R177). -/
theorem test_dac_strobes :
    (internalStep (bench.modifyPrt 1 fun _ => ⟨1#32, 0xFFFFFFFF#32, 0xE0#8, true⟩)).dacCalls =
      [.step, .phaseReset 1, .phaseReset 0, .reset false] := by decide
/-- A disabled timer holds (95_test_vectors.md L2.5). -/
theorem test_timer_disabled : timerAdvance ⟨0xC0000000#32, 0x40000000#32, 1#8, false⟩ =
    ⟨0xC0000000#32, 0x40000000#32, 1#8, false⟩ := by decide

/-! ### Volume and mix (R232, R240, R243) -/

theorem test_attenuate_points :
    [(1023#10, 255#8), (1023#10, 239#8), (707#10, 223#8), (1023#10, 96#8), (1023#10, 95#8)].map
      (fun p => attenuate Config.default { VolumePath.cleared p.2 with w := p.1 }) =
      [1023#10, 511#10, 176#10, 1#10, 0#10] := by decide
theorem test_dacTerm_points :
    [4095#12, 2048#12, 2047#12, 2046#12, 2050#12, 0#12].map dacTerm = [512, 0, 0, -1, 0, -512] := by decide
/-- R243. -/
def mixing : State :=
  (bench.mapDds fun i d => if i.val = 0 then { d with w := 1023#10 }
    else if i.val = 1 then { d with w := 707#10, vol := 223#8 } else d).modifyNz
    fun n => { n with w := 1023#10, vol := 239#8 }
theorem test_mix_sum : (mix mixing).outputs = [1023#16, 176#16, 0#16, 0#16, 511#16, 0#16, 0#16] ∧
    (mix mixing).master = 1710#16 := by decide
theorem test_mix_muted :
    (fun t => (t.y[0], t.master)) (mix (mixing.withMute (mixing.mute.set 0 true))) = (0#16, 687#16) := by decide

/-! ### Host operations and the sequencer -/

/-- 95_test_vectors.md L2.6: the queue with depth 2. -/
def shallow (q : List Command) (op : HostOp) : State :=
  { hosted op with cfg := { bench.cfg with queueDepth := 2 }, queue := q }
theorem test_enqueue_last_place :
    (nextOf (step (shallow [⟨0#8, 1#32⟩] (.enqueue 0xFF 0xFFFFFFFF)))).map (fun t => (t.queue, t.qOvf, t.returns)) =
      some ([⟨0#8, 1#32⟩, ⟨0xFF#8, 0xFFFFFFFF#32⟩], false, [.accepted true]) := by decide
theorem test_enqueue_full :
    (nextOf (step (shallow [⟨0#8, 1#32⟩, ⟨0x10#8, 2#32⟩] (.enqueue 0x20 3)))).map
      (fun t => (t.queue, t.qOvf, t.returns)) =
      some ([⟨0#8, 1#32⟩, ⟨0x10#8, 2#32⟩], true, [.accepted false]) := by decide
theorem test_status : (nextOf (step (shallow [⟨0#8, 1#32⟩] .queueStatus))).map (·.returns) =
    some [.status 1 false] := by decide
theorem test_refusals :
    refusalOf (step (hosted (.enqueue 256 0))) = some (.enqueueOperand 256 0) ∧
    refusalOf (step (hosted (.enqueue 0 (2 ^ 32)))) = some (.enqueueOperand 0 (2 ^ 32)) ∧
    refusalOf (step (hosted (.setMuted 7 0))) = some (.setMutedOperand 7 0) ∧
    refusalOf (step (hosted (.setMuted 0 2))) = some (.setMutedOperand 0 2) ∧
    refusalOf (step (hosted (.clockAndMix (-1)))) = some (.clockAndMixCount (-1)) := by decide
theorem test_operands_accepted :
    (nextOf (step (hosted (.setMuted 6 1)))).map (fun t => (t.mute[6], t.mute[5])) = some (true, false) ∧
    (nextOf (step (hosted (.clockAndMix 0)))).map (·.clock) = some (some ⟨0, [], []⟩) ∧
    refusalOf (step (benchLarge.withHostOps [.setMuted 7 1])) = none := by decide
/-- 95_test_vectors.md L2.9: the pending code is applied, a stale one is not. -/
def pending : State := withDds0 fun d => { d with zcen := true, pvol := 77#8, pvalid := true }
theorem test_reset_pending : (resetBlock true pending).dds[0] = DdsChannel.cleared 77#8 ∧
    (resetBlock true (withDds0 fun d => { d with pvol := 77#8, vol := 12#8 })).dds[0] = DdsChannel.cleared 255#8 ∧
    (resetBlock true { pending with cfg := { bench.cfg with resetAppliesPending := false } }).dds[0] =
      DdsChannel.cleared 255#8 := by decide
theorem test_reset_mutes_and_queue :
    (fun t => (t.mute[0], t.queue, t.qOvf))
      (resetBlock true { bench with mute := bench.mute.set 0 true, queue := [⟨0#8, 5#32⟩], qOvf := true }) =
      (true, [⟨0#8, 5#32⟩], true) ∧
    (resetBlock false { bench with mute := bench.mute.set 0 true }).mute[0] = false := by decide
/-- R295 against R291: with a code pending, a second reset loses it (log 17). -/
theorem test_two_resets_differ : (resetBlock true (resetBlock true pending)).dds[0].vol = 255#8 ∧
    (resetBlock true pending).dds[0].vol = 77#8 ∧ pending.cfg.resetAppliesPending = true := by decide
theorem test_fetch_word_runs : nextOf (step (bench.withFetchWord 8 0x01)) =
    some { bench with phase := .step 0 } ∧ (bench.withFetchWord 8 0x01).queue = [⟨0x01#8, 0#32⟩] := by decide
theorem test_drain_two_slots :
    (nextOf (step { bench with cfg := { bench.cfg with drain := 2 }, phase := .drain 0,
                               queue := [⟨0x02#8, 5#32⟩, ⟨0x0F#8, 0#32⟩] })).map
      (fun t => (t.dds[0].pw, t.queue, t.phase)) = some (5#10, [⟨0x0F#8, 0#32⟩], .drain 1) := by decide
theorem test_events :
    commandEvent bench ⟨0x01#8, 6#32⟩ = some .evWaveIgnored ∧ commandEvent bench ⟨0x0F#8, 0#32⟩ = some .evAddrIgnored ∧
    commandEvent bench ⟨0x42#8, 0#32⟩ = some .evSeedCoerced ∧
    commandEvent (withNz fun n => { n with intclk := true }) ⟨0x40#8, 5#32⟩ = some .evNzFreqIgnored ∧
    enqueueEvent (shallow [⟨0#8, 1#32⟩, ⟨0x10#8, 2#32⟩] .tick) = some .evQueueDrop := by decide

/-- Each event of R271 at the edges of its condition. -/
theorem test_event_edges :
    commandEvent bench ⟨0x31#8, 5#32⟩ = none ∧ commandEvent bench ⟨0x41#8, 6#32⟩ = none ∧
    commandEvent bench ⟨0x42#8, 0x00800001#32⟩ = none ∧ commandEvent bench ⟨0x42#8, 0xFF800000#32⟩ = some .evSeedCoerced ∧
    commandEvent bench ⟨0x40#8, 5#32⟩ = none ∧ commandEvent bench ⟨0x70#8, 5#32⟩ = some .evAddrIgnored ∧
    commandEvent benchLarge ⟨0x70#8, 5#32⟩ = none ∧ enqueueEvent (shallow [⟨0#8, 1#32⟩] .tick) = none := by decide

/-! ### Witnesses: concrete data that meet the hypotheses of each statement (named after it), at the boundaries of its clauses -/

theorem witness_secondApplication :
    (∀ k cmd v, Instr.ddsZcen 0 0#32 ≠ .dacFwd k cmd v) ∧
    nextOf (exec (.ddsZcen 0 0#32) pending) ≠ some pending :=
  ⟨fun _ _ _ h => (by cases h), by decide⟩
theorem witness_absentUnitsDoNothing :
    (Instr.prtEn 4 1#32).wellFormed bench.cfg = false ∧ (Instr.dacFwd 2 15#4 1#32).wellFormed bench.cfg = false ∧
    nextOf (exec (.prtEn 4 1#32) bench) = some bench ∧
    decode bench.cfg (encode (.prtMask 7 1#32)) = .ignored .absentTimer := by decide
theorem witness_accumulatorPeriod :
    2 ^ 28 / Nat.gcd (0x04000000#28).toNat (2 ^ 28) = 4 ∧
    [1, 3, 4].map (fun m => activeAccumulator ((ddsStep Config.default)^[m] { waved .sine 5#28 with freq := 0x04000000#28 })) =
      [0x04000005#28, 0x0C000005#28, 5#28] := by decide
/-- A stopped channel outside the window, with a code pending. -/
def stopped : DdsChannel :=
  { waved .sine 0x04000000#28 with zcen := true, pvalid := true, pvol := 100#8, w := 1023#10, armed := true }
theorem witness_stoppedChannelNeverCommits :
    stopped.freq = 0#28 ∧ stopped.w = waveMux Config.default stopped ∧
    stopped.armed = outsideWindow Config.default stopped.w ∧ stopped.pvalid = true := by decide
theorem witness_noiseStepShiftsOnOverflow :
    (∃ inc, inc = (if (ticking 1#23).intclk = true then Config.default.noiseIntInc.toNat else (ticking 1#23).freq.toNat) ∧
      2 ^ 32 ≤ (ticking 1#23).acc.toNat + inc) ∧
    (0x7FFFFFFF#32).toNat + (ticking 1#23).freq.toNat < 2 ^ 32 := ⟨⟨_, rfl, by decide⟩, by decide⟩
theorem witness_noiseShiftCount :
    (noiseIncrement Config.default (ticking 1#23)).toNat * 2 = 2 ^ 32 ∧
    ((noiseStep Config.default)^[6] (ticking 1#23)).lfsr = 8#23 ∧ 6 = 3 * 2 := by decide
theorem witness_noiseSequenceIsMaximal :
    0x400000#23 ≠ 0#23 ∧ lfsrShift^[1] 0x400000#23 = 1#23 ∧ lfsrShift^[18] 0x400000#23 = 0x20000#23 ∧ 18 < 2 ^ 23 - 1 := by
  decide
theorem witness_timerFiringPeriod :
    [0, 3, 4, 7].map (fun n => timerFires (timerAdvance^[n] ⟨0#32, 0x40000000#32, 1#8, true⟩)) =
      [false, true, false, true] ∧ (0x40000000#32).toNat * 4 = 2 ^ 32 := by decide
/-- Timer 3 fires on DDS channels 0 (PWM) and 3 (not PWM). -/
def firing : State :=
  (bench.mapDds fun i d =>
      { d with acc := 77#28, tacc := 88#28, freq := 99#28, wave := if i.val = 0 then .pwm else .triangle }).modifyPrt 3
    fun _ => ⟨0xFFFFFFFF#32, 1#32, 0x09#8, true⟩
theorem witness_resetComesBeforeAdvance :
    (pulseSet firing).getLsbD 0 = true ∧ (pulseSet firing).getLsbD 3 = true ∧
    firing.dds[0].wave = .pwm ∧ firing.dds[3].wave ≠ .pwm ∧
    ((internalStep firing).dds[0].tacc, (internalStep firing).dds[0].acc) = (99#28, 0#28) ∧
    ((internalStep firing).dds[3].acc, (internalStep firing).dds[3].tacc) = (99#28, 0#28) := by decide
theorem witness_timersAdvanceAndFire :
    (advanceTimers firing).prt[3] = ⟨0#32, 1#32, 0x09#8, true⟩ ∧ (advanceTimers firing).prt[2] = firing.prt[2] ∧
    firing.prt[3].en = true ∧ firing.prt[2].en = false ∧ firing.cfg.numPrt.num = 4 := by decide
theorem witness_zeroCrossGate :
    Config.default.zcTol.toNat < (17#10).toNat ∧ (16#10).toNat ≤ Config.default.zcTol.toNat ∧
    zcUpdate Config.default { VolumePath.cleared 255#8 with w := 16#10 } = { VolumePath.cleared 255#8 with w := 16#10 } ∧
    zcUpdate Config.default { VolumePath.cleared 255#8 with w := 0#10, armed := true } = VolumePath.cleared 255#8 := by
  decide
theorem witness_oneCommitPerCrossing :
    (∀ w ∈ [16#10, 0#10, 3#10], w.toNat ≤ Config.default.zcTol.toNat) ∧
    (fun p => (p.vol, p.pvalid)) (gateAll Config.default ([16#10, 0#10, 3#10] ++ [17#10, 16#10])
      { VolumePath.cleared 255#8 with zcen := true, pvalid := true, pvol := 9#8 }) = (9#8, false) := by decide
theorem witness_volumeMultiplier :
    Config.default.legal = true ∧ Config.default.gainLut = .listed ∧
    [(700#10, 255#8), (700#10, 0#8), (0#10, 200#8)].map
      (fun p => attenuate Config.default { VolumePath.cleared p.2 with w := p.1 }) = [700#10, 0#10, 0#10] := by decide
theorem witness_mixOutputsOfEachChannel :
    mixing.mute[4] = false ∧ (mixing.withMute (mixing.mute.set 4 true)).mute[4] = true ∧
    (mix mixing).y[0].toInt = 1023 ∧ (mix mixing).y[4].toInt = 511 ∧ (mix mixing).y[5].toInt = 0 ∧
    (mix (mixing.withMute (mixing.mute.set 4 true))).y[4] = 0#16 := by decide
/-- The last drain slot of a tick, with `m` at the head of the queue. -/
def draining (m : Command) : State := { bench with phase := .drain 0, queue := [m, ⟨0x0F#8, 0#32⟩] }
theorem witness_stepRunsTheDecodedCommand :
    (draining ⟨0x22#8, 5#32⟩).phase = .drain 0 ∧
    decode bench.cfg ⟨0x22#8, 5#32⟩ = .instr (.ddsPw 2 5#32) ∧
    (nextOf (step (draining ⟨0x22#8, 5#32⟩))).map (fun t => (t.dds[2].pw, t.queue, t.phase)) =
      some (5#10, [⟨0x0F#8, 0#32⟩], .step 0) := by decide
theorem witness_nothingToDoChangesNothing :
    decode bench.cfg ⟨0x0F#8, 0#32⟩ = .ignored .ddsCommandType ∧
    nextOf (step (draining ⟨0x0F#8, 0#32⟩)) = some { bench with phase := .step 0, queue := [⟨0x0F#8, 0#32⟩] } ∧
    nextOf (step { bench with phase := .drain 0 }) = some { bench with phase := .step 0 } ∧
    nextOf (step bench) = some bench := by decide
theorem witness_hostOperations :
    takes (.enqueue 0xFF 0xFFFFFFFF) [] (hosted (.enqueue 0xFF 0xFFFFFFFF)) ∧
    takes .queueStatus [] (hosted .queueStatus) ∧ takes (.setMuted 6 1) [] (hosted (.setMuted 6 1)) ∧
    takes (.reset true) [] (hosted (.reset true)) ∧ takes (.clockAndMix 2) [] (hosted (.clockAndMix 2)) ∧
    takes .tick [] (hosted .tick) ∧ bench.cfg.legal = true ∧ 6 < bench.cfg.numCh := by
  refine ⟨⟨?_, ?_, ?_⟩, ⟨?_, ?_, ?_⟩, ⟨?_, ?_, ?_⟩, ⟨?_, ?_, ?_⟩, ⟨?_, ?_, ?_⟩, ⟨?_, ?_, ?_⟩, ?_, ?_⟩ <;> decide
theorem witness_onlyHostOperandsAreRefused :
    takes (.clockAndMix (-1)) [] (hosted (.clockAndMix (-1))) ∧ ¬ opInRange bench.cfg (.clockAndMix (-1)) ∧
    ¬ opInRange bench.cfg (.enqueue 256 0) ∧ ¬ opInRange bench.cfg (.setMuted 7 0) ∧ ¬ opInRange bench.cfg (.setMuted 0 2) ∧
    opInRange bench.cfg (.clockAndMix 0) := by
  refine ⟨⟨rfl, rfl, rfl⟩, ?_, ?_, ?_, ?_, ?_⟩ <;> simp only [opInRange] <;> decide
/-- A state of the default configuration, nothing pending, with registers, queue and flags away from their reset values. -/
def used : State :=
  { State.reset.modifyDds 2 (fun d => { d with freq := 5#28, vol := 3#8 }) with
    queue := [⟨0x0F#8, 0#32⟩], qOvf := true, phase := .mix, mute := State.reset.mute.set 3 true, master := 7#16 }
theorem witness_powerOn :
    used.cfg = Config.default ∧ (∀ i : Fin 4, used.dds[i].pvalid = false) ∧ used.nz.pvalid = false ∧
    used.prt[4] = PhaseTimer.cleared ∧ used.mute[7] = false ∧ used.y[7] = 0#16 ∧ used ≠ State.reset := by decide
theorem witness_twoResetsEqualOne :
    pending.cfg.resetAppliesPending = true ∧
    { pending with cfg := { bench.cfg with resetAppliesPending := false } }.cfg.resetAppliesPending = false ∧
    pending.dds[0].pvalid = true ∧ (∀ i : Fin 4, used.dds[i].pvalid = false) ∧ used.nz.pvalid = false := by decide
/-- 95_test_vectors.md L2.9, first and third rows in a row: a reset applies the pending 77, and on the state it leaves, with
`pvalid` = 0 and a volume other than 255, a reset gives 255. A pending 255 makes no difference. -/
theorem witness_twoResetsEqualOne_edges :
    ((resetBlock true pending).dds[0].pvalid, (resetBlock true pending).dds[0].vol) = (false, 77#8) ∧
    (resetBlock true (withDds0 fun d => { d with vol := 77#8 })).dds[0].vol = 255#8 ∧
    (resetBlock true (withDds0 fun d => { d with zcen := true, pvol := 255#8, pvalid := true })).dds[0] =
      DdsChannel.cleared 255#8 ∧ pending.cfg = bench.cfg := by decide
theorem witness_mutesHaveTheirWriters :
    bench.mute[3] = false ∧ (nextOf (step (hosted (.setMuted 3 1)))).map (fun t => t.mute[3]) = some true ∧
    (nextOf (step ({ hosted (.reset false) with mute := bench.mute.set 3 true }))).map (fun t => t.mute[3]) =
      some false := by decide
theorem witness_outputsHaveTheirWriters :
    (nextOf (step { mixing with phase := .mix })).map (fun t => (t.y[4], t.master)) = some (511#16, 1710#16) ∧
    (nextOf (step { mix mixing with hostOps := [.reset true] })).map (fun t => (t.y[4], t.master)) = some (0#16, 0#16) := by
  decide
/-- A state that meets the invariant, amid a tick, outside the window with a code pending. -/
def busy : State :=
  { withDds0 (fun d => { d with
      zcen := true, pvalid := true, pvol := 100#8, wave := .sine, freq := 0x01000000#28, w := 707#10, armed := true }) with
    queue := [⟨0x43#8, 9#32⟩], phase := .drain 0 }
theorem witness_stepKeepsInvariant : Inv busy where
  legal := by decide
  dds := by unfold pathOk; decide
  nz := by unfold pathOk; decide
  lfsr := by decide
  reload := by decide
  level := .inl rfl
  queue := by decide
  phase := by show 0 < 1; decide
  outputs := by unfold outputOk; decide
  master := by decide
  absentTimer := fun _ => rfl
  absentChannel := fun _ => ⟨rfl, rfl⟩
theorem witness_stepKeepsInvariant_next : (nextOf (step busy)).map (fun t => (t.nz.vol, t.phase)) =
    some (9#8, .step 0) := by decide
theorem witness_noiseRegistersStayNonzero : busy.nz.lfsr ≠ 0#23 ∧ busy.nz.reload ≠ 0#23 := by decide
theorem witness_mutesReachOutputsOnly :
    (nextOf (step { busy with phase := .mix, cfg := { busy.cfg with dacPort := .constant (Vector.replicate 3 2047#12) },
                              mute := busy.mute.set 0 true })).map (fun t => (t.y[0], t.phase)) =
      some (0#16, .idle) := by decide
theorem witness_queueRateLimit :
    (nextOf (repeatOut 1 tick { bench with queue := [⟨0x02#8, 5#32⟩, ⟨0x02#8, 6#32⟩] })).map
      (fun t => (t.dds[0].pw, t.queue)) = some (5#10, [⟨0x02#8, 6#32⟩]) ∧
    (nextOf (applyTicks 1 [⟨0x02#8, 5#32⟩] bench)).map (fun t => (t.dds[0].pw, t.queue)) = some (5#10, []) := by decide
theorem witness_sequencerWalk :
    (nextOf (Sys2Proof.core.run 4 (hosted .tick))).map (fun t => (t.phase, t.returns)) =
      some (.idle, [.sample 0#16 (List.replicate 7 0#16)]) ∧ walkLength bench.cfg = 4 := by decide
theorem witness_clockAndMix :
    (nextOf (Sys2Proof.core.run (1 * 4 + 2) (hosted (.clockAndMix 1)))).map (fun t => (t.phase, t.clock, t.returns)) =
      some (.idle, none, [.buffers [0#16] (List.replicate 7 [0#16])]) := by decide

end Sys2Proof.Tests
end

section
/-! The state: what one step of the sequencer can do, said once (R201, R218), what it can do to the registers, the outputs
and the mute flags, and the invariants of 10_state.md that follow (R24 to R36, R239). -/

namespace Sys2Proof.Machine

/-! ### What a step can do -/

/-- The cases of one step of the sequencer, each with its guard and the state it leaves (R201, R218, R219). -/
inductive StepsTo (s : State) : State → Prop where
  | wait (hphase : s.phase = .idle) (hclock : s.clock = none) (hops : s.hostOps = []) : StepsTo s s
  | clock (j : ClockJob) (hphase : s.phase = .idle) (hclock : s.clock = some j) : StepsTo s (continueClock j s)
  | enqueue (a v : Nat) (rest : List HostOp) (htakes : takes (.enqueue a v) rest s)
      (hrange : a < 2 ^ 8 ∧ v < 2 ^ 32) :
      StepsTo s (enqueue ⟨BitVec.ofNat 8 a, BitVec.ofNat 32 v⟩ (s.withHostOps rest))
  | queueStatus (rest : List HostOp) (htakes : takes .queueStatus rest s) :
      StepsTo s (queueStatus (s.withHostOps rest))
  | tick (rest : List HostOp) (htakes : takes .tick rest s) : StepsTo s ((s.withHostOps rest).withPhase (.drain 0))
  | clockAndMix (n : Int) (rest : List HostOp) (htakes : takes (.clockAndMix n) rest s) (hrange : 0 ≤ n) :
      StepsTo s ((s.withHostOps rest).withClock (some ⟨n.toNat, [], []⟩))
  | setMuted (ch m : Nat) (rest : List HostOp) (htakes : takes (.setMuted ch m) rest s)
      (hrange : ch < s.cfg.numCh ∧ m < 2) :
      StepsTo s (setMuted (Fin.ofNat 8 ch) (m == 1) (s.withHostOps rest))
  | reset (p : Bool) (rest : List HostOp) (htakes : takes (.reset p) rest s) :
      StepsTo s ((resetBlock p (s.withHostOps rest)).answer .done)
  | drain (j : Nat) {t : State} (hphase : s.phase = .drain j)
      (hslot : drainSlot (s.withPhase (afterDrain s.cfg j)) = .next t) : StepsTo s t
  | step (n : Nat) (hphase : s.phase = .step n) : StepsTo s (internalStep (s.withPhase (afterStep s.cfg n)))
  | mix (hphase : s.phase = .mix) : StepsTo s (deliver (mix (s.withPhase .idle)))

/-- A host operation that is not refused does one of the host's cases of `StepsTo` (R218, R219). -/
theorem hostOp_cases {s t : State} {op : HostOp} {rest : List HostOp} (htakes : takes op rest s)
    (h : hostOp op (s.withHostOps rest) = .next t) : StepsTo s t := by
  cases op with
  | enqueue a v =>
    simp only [hostOp] at h
    split at h <;> cases h
    next hrange => exact .enqueue a v rest htakes hrange
  | queueStatus => cases h; exact .queueStatus rest htakes
  | tick => cases h; exact .tick rest htakes
  | clockAndMix n =>
    simp only [hostOp] at h
    split at h <;> cases h
    next hrange => exact .clockAndMix n rest htakes hrange
  | setMuted ch m =>
    simp only [hostOp] at h
    split at h <;> cases h
    next hrange => exact .setMuted ch m rest htakes hrange
  | reset p => cases h; exact .reset p rest htakes

/-- A step does one of the cases of `StepsTo` (R201). -/
theorem step_cases {s t : State} (h : step s = .next t) : StepsTo s t := by
  cases hphase : s.phase with
  | idle =>
    cases hclock : s.clock with
    | some j =>
      rw [step_idle s hphase, idleAction, hclock] at h
      cases h
      exact .clock j hphase hclock
    | none =>
      cases hops : s.hostOps with
      | nil =>
        rw [step_idle s hphase, idleAction, hclock, hops] at h
        cases h
        exact .wait hphase hclock hops
      | cons op rest =>
        rw [step_host s op rest hphase hclock hops] at h
        exact hostOp_cases ⟨hphase, hclock, hops⟩ h
  | drain j =>
    rw [step_drain s j hphase] at h
    exact .drain j hphase h
  | step n =>
    rw [step_step s n hphase] at h
    cases h
    exact .step n hphase
  | mix =>
    rw [step_mix s hphase] at h
    cases h
    exact .mix hphase

/-- Going on with a `ClockAndMix` moves the phase, the job and the record of returns only (R214). -/
theorem continueClock_frame (j : ClockJob) (s : State) :
    continueClock j s = { s with phase := (continueClock j s).phase, clock := (continueClock j s).clock,
                                 returns := (continueClock j s).returns } := by
  unfold continueClock; split <;> rfl

/-- An `Enqueue` changes the queue, `q_ovf` and the record of returns only (R190, R191). -/
theorem enqueue_frame (m : Command) (s : State) :
    enqueue m s = { s with queue := (enqueue m s).queue, qOvf := (enqueue m s).qOvf,
                           returns := (enqueue m s).returns } := by
  unfold enqueue; split <;> rfl

/-- An `Enqueue` appends, unless the queue is full (R190, R191). -/
theorem enqueue_queue (m : Command) (s : State) :
    (enqueue m s).queue = if s.queue.length < s.cfg.queueDepth then s.queue ++ [m] else s.queue := by
  unfold enqueue; split <;> rfl

/-- An `Enqueue` sets `q_ovf` when the queue is full, and else leaves it (R191). -/
theorem enqueue_qOvf (m : Command) (s : State) :
    (enqueue m s).qOvf = true ↔ s.qOvf = true ∨ s.cfg.queueDepth ≤ s.queue.length := by
  unfold enqueue
  split
  next hroom => simp [hroom]
  next hfull => simp [Nat.le_of_not_lt hfull]

/-- What a drain slot leaves, in terms of its outcome (R195). -/
theorem drainSlot_frame {s t : State} (h : drainSlot s = .next t) :
    t = { s with dds := t.dds, nz := t.nz, prt := t.prt, dacCalls := t.dacCalls, queue := s.queue.tail } := by
  obtain ⟨u, hu, hframe⟩ := drainSlot_next s
  cases hu.symm.trans h
  exact hframe

/-! ### Parameters and tables (R36, R260) -/

theorem step_cfg {s t : State} (h : step s = .next t) : t.cfg = s.cfg := by
  cases step_cases h with
  | clock j => rw [continueClock_frame]
  | enqueue a v rest => rw [enqueue_frame]; rfl
  | drain j _ hslot => rw [drainSlot_frame hslot]; rfl
  | step n => rw [internalStep_frame]; rfl
  | mix => rw [deliver_frame]; rfl
  | wait | queueStatus | tick | clockAndMix | setMuted | reset => rfl

/-- Settles O60: the tables are read from the configuration, which no step changes. -/
theorem parametersAndTablesAreConstant : Obligations.ParametersAndTablesAreConstant := by
  intro s t h
  rw [step_cfg h]
  exact ⟨rfl, fun _ => rfl, fun _ => rfl⟩

/-! ### The queue (R31, R33) -/

/-- The queue after a step: as it was, without its head, or with one more entry where there was room (R31). -/
theorem step_queue {s t : State} (h : step s = .next t) :
    t.queue = s.queue ∨
    (∃ (j : Nat) (m : Command), s.phase = .drain j ∧ s.queue = m :: t.queue) ∨
    (∃ (a v : Nat) (rest : List HostOp), takes (.enqueue a v) rest s ∧ s.queue.length < s.cfg.queueDepth ∧
      t.queue = s.queue ++ [⟨BitVec.ofNat 8 a, BitVec.ofNat 32 v⟩]) := by
  cases step_cases h with
  | clock j => rw [continueClock_frame]; exact .inl rfl
  | enqueue a v rest htakes =>
    rw [enqueue_queue]
    split
    next hroom => exact .inr (.inr ⟨a, v, rest, htakes, hroom, rfl⟩)
    next => exact .inl rfl
  | drain j hphase hslot =>
    have htail : t.queue = s.queue.tail := congrArg State.queue (drainSlot_frame hslot)
    cases hq : s.queue with
    | nil => rw [htail, hq]; exact .inl rfl
    | cons m q => rw [htail, hq]; exact .inr (.inl ⟨j, m, hphase, rfl⟩)
  | step n => rw [internalStep_frame]; exact .inl rfl
  | mix => rw [deliver_frame]; exact .inl rfl
  | wait | queueStatus | tick | clockAndMix | setMuted | reset => exact .inl rfl

theorem step_queue_bound {s t : State} (h : step s = .next t) (hlen : s.queue.length ≤ s.cfg.queueDepth) :
    t.queue.length ≤ t.cfg.queueDepth := by
  rw [step_cfg h]
  obtain hsame | ⟨_, m, _, hpop⟩ | ⟨_, _, _, _, hroom, happend⟩ := step_queue h
  · rwa [hsame]
  · rw [hpop, List.length_cons] at hlen; omega
  · rw [happend, List.length_append, List.length_singleton]; exact hroom

/-- Settles O51. -/
theorem queueChangesAtItsEndsOnly : Obligations.QueueChangesAtItsEndsOnly := by
  intro s t h
  refine ⟨?_, step_queue_bound h⟩
  obtain hsame | hpop | ⟨a, v, rest, htakes, _, happend⟩ := step_queue h
  · exact .inl hsame
  · exact .inr (.inl hpop)
  · exact .inr (.inr ⟨a, v, rest, htakes, happend⟩)

/-- An `Enqueue` that is taken and not refused is the `enqueue` of R190. -/
theorem step_of_takes_enqueue {s t : State} {a v : Nat} {rest : List HostOp} (htakes : takes (.enqueue a v) rest s)
    (h : step s = .next t) : t = enqueue ⟨BitVec.ofNat 8 a, BitVec.ofNat 32 v⟩ (s.withHostOps rest) := by
  obtain ⟨hphase, hclock, hops⟩ := htakes
  rw [step_host s _ rest hphase hclock hops, hostOp] at h
  split at h <;> cases h
  rfl

theorem step_qOvf_of_no_enqueue {s t : State} (h : step s = .next t)
    (hno : ∀ a v rest, ¬ takes (.enqueue a v) rest s) : t.qOvf = s.qOvf := by
  cases step_cases h with
  | clock j => rw [continueClock_frame]
  | enqueue a v rest htakes => exact absurd htakes (hno a v rest)
  | drain j _ hslot => rw [drainSlot_frame hslot]; rfl
  | step n => rw [internalStep_frame]; rfl
  | mix => rw [deliver_frame]; rfl
  | wait | queueStatus | tick | clockAndMix | setMuted | reset => rfl

/-- Settles O52, by whether the step takes an `Enqueue`. -/
theorem overflowBitIsSticky : Obligations.OverflowBitIsSticky := by
  refine ⟨rfl, fun s t h => ?_⟩
  by_cases htaken : ∃ a v rest, takes (.enqueue a v) rest s
  · obtain ⟨a, v, rest, htakes⟩ := htaken
    rw [step_of_takes_enqueue htakes h, enqueue_qOvf]
    constructor
    · rintro (hold | hfull)
      · exact .inl hold
      · exact .inr ⟨a, v, rest, htakes, hfull⟩
    · rintro (hold | ⟨_, _, _, _, hfull⟩)
      · exact .inl hold
      · exact .inr hfull
  · rw [step_qOvf_of_no_enqueue h fun a v rest htakes => htaken ⟨a, v, rest, htakes⟩]
    exact ⟨.inl, fun hset => hset.resolve_right fun ⟨a, v, rest, htakes, _⟩ => htaken ⟨a, v, rest, htakes⟩⟩

/-! ### Mute flags and outputs (R34, R35) -/

/-- The mute flags after a step: as they were, one of them written, or cleared (R34). -/
theorem step_mute {s t : State} (h : step s = .next t) :
    t.mute = s.mute ∨
    (∃ (ch m : Nat) (rest : List HostOp), takes (.setMuted ch m) rest s ∧ ch < s.cfg.numCh ∧
      t.mute = s.mute.set (Fin.ofNat 8 ch) (m == 1)) ∨
    (∃ rest, takes (.reset false) rest s ∧ t.mute = resetMute false s) := by
  cases step_cases h with
  | clock j => rw [continueClock_frame]; exact .inl rfl
  | enqueue a v rest => rw [enqueue_frame]; exact .inl rfl
  | setMuted ch m rest htakes hrange => exact .inr (.inl ⟨ch, m, rest, htakes, hrange.1, rfl⟩)
  | reset p rest htakes =>
    cases p with
    | true => exact .inl rfl
    | false => exact .inr (.inr ⟨rest, htakes, rfl⟩)
  | drain j _ hslot => rw [drainSlot_frame hslot]; exact .inl rfl
  | step n => rw [internalStep_frame]; exact .inl rfl
  | mix => rw [deliver_frame]; exact .inl rfl
  | wait | queueStatus | tick | clockAndMix => exact .inl rfl

/-- The outputs after a step: as they were, mixed, or cleared (R35). -/
theorem step_outputs {s t : State} (h : step s = .next t) :
    (t.y = s.y ∧ t.master = s.master) ∨
    (s.phase = .mix ∧ t.y = (mix s).y ∧ t.master = (mix s).master) ∨
    (∃ p rest, takes (.reset p) rest s ∧ t.y = resetOutputs s ∧ t.master = 0#16) := by
  cases step_cases h with
  | clock j => rw [continueClock_frame]; exact .inl ⟨rfl, rfl⟩
  | enqueue a v rest => rw [enqueue_frame]; exact .inl ⟨rfl, rfl⟩
  | reset p rest htakes => exact .inr (.inr ⟨p, rest, htakes, rfl, rfl⟩)
  | drain j _ hslot => rw [drainSlot_frame hslot]; exact .inl ⟨rfl, rfl⟩
  | step n => rw [internalStep_frame]; exact .inl ⟨rfl, rfl⟩
  | mix hphase => rw [deliver_frame]; exact .inr (.inl ⟨hphase, rfl, rfl⟩)
  | wait | queueStatus | tick | clockAndMix | setMuted => exact .inl ⟨rfl, rfl⟩

/-- In MIX a step leaves what the mix computes (R201, R238). -/
theorem step_mix_outputs {s t : State} (h : step s = .next t) (hphase : s.phase = .mix) :
    t.y = (mix s).y ∧ t.master = (mix s).master := by
  rw [step_mix s hphase, deliver_frame] at h
  cases h
  exact ⟨rfl, rfl⟩

/-- Settles O53. -/
theorem mutesAndOutputsHaveTheirWriters : Obligations.MutesAndOutputsHaveTheirWriters := by
  intro s t h
  refine ⟨fun hne => ?_, fun hne => ?_, step_mix_outputs h⟩
  · obtain hsame | ⟨ch, m, rest, htakes, _, _⟩ | ⟨rest, htakes, _⟩ := step_mute h
    · exact absurd hsame hne
    · exact ⟨_, rest, htakes, .inl ⟨ch, m, rfl⟩⟩
    · exact ⟨_, rest, htakes, .inr rfl⟩
  · obtain ⟨hy, hmaster⟩ | ⟨hphase, _, _⟩ | ⟨p, rest, htakes, _, _⟩ := step_outputs h
    · exact absurd hne (by simp [hy, hmaster])
    · exact .inl hphase
    · exact .inr ⟨p, rest, htakes⟩

/-! ### What a step can do to the registers of the units -/

/-- What a command can do to a volume path (R103, R104, R143, R144). -/
inductive PathWrite (p : VolumePath) : VolumePath → Prop where
  | same : PathWrite p p
  | volume (v : Vol) : PathWrite p (writeVolume v p)
  | deferral (b : Bool) : PathWrite p (writeDeferral b p)

/-- What a command can do to the noise channel's volume path and noise registers (R140 to R144). -/
structure NoiseWrite (n m : NoiseChannel) : Prop where
  path : PathWrite n.toVolumePath m.toVolumePath
  regs : (m.lfsr = n.lfsr ∧ m.reload = n.reload) ∨ ∃ v, m.lfsr = seedField v ∧ m.reload = seedField v

/-- What an instruction can do to the state: nothing, or a write to one DDS channel, to the noise channel, to one timer or
to the DAC port (R85). -/
inductive Writes (s : State) : State → Prop where
  | nothing : Writes s s
  | dds (i : Fin 4) (f : DdsChannel → DdsChannel) (hf : ∀ d, PathWrite d.toVolumePath (f d).toVolumePath) :
      Writes s (s.modifyDds i f)
  | nz (f : NoiseChannel → NoiseChannel) (hf : ∀ n, NoiseWrite n (f n)) : Writes s (s.modifyNz f)
  | prt (u : Fin 8) (f : PhaseTimer → PhaseTimer) : Writes s (s.modifyPrt u f)
  | dac (c : DacCall) : Writes s (s.callDac c)

theorem exec_writes {i : Instr} {s t : State} (h : exec i s = .next t) : Writes s t := by
  cases i with
  | ddsFreq j v => cases h; exact .dds j _ fun _ => .same
  | ddsWave j v =>
    simp only [exec, execDdsWave] at h
    split at h <;> cases h
    · exact .dds j _ fun _ => .same
    · exact .nothing
  | ddsPw j v => cases h; exact .dds j _ fun _ => .same
  | ddsVol j v => cases h; exact .dds j _ fun _ => .volume _
  | ddsZcen j v => cases h; exact .dds j _ fun _ => .deferral _
  | nzFreq v =>
    cases h
    split
    · exact .nothing
    · exact .nz _ fun _ => ⟨.same, .inl ⟨rfl, rfl⟩⟩
  | nzClk v => cases h; exact .nz _ fun _ => ⟨.same, .inl ⟨rfl, rfl⟩⟩
  | nzSeed v => cases h; exact .nz _ fun _ => ⟨.same, .inr ⟨v, rfl, rfl⟩⟩
  | nzVol v => cases h; exact .nz _ fun _ => ⟨.volume _, .inl ⟨rfl, rfl⟩⟩
  | nzZcen v => cases h; exact .nz _ fun _ => ⟨.deferral _, .inl ⟨rfl, rfl⟩⟩
  | dacFwd k c v =>
    cases h
    split
    · exact .dac _
    · exact .nothing
  | prtFreq u v => cases h; exact .prt u _
  | prtMask u v => cases h; exact .prt u _
  | prtEn u v => cases h; exact .prt u _

/-- From `s` to `t` no parameter and no register of a unit changes. -/
structure SameUnits (s t : State) : Prop where
  cfg : t.cfg = s.cfg
  dds : t.dds = s.dds
  nz : t.nz = s.nz
  prt : t.prt = s.prt

/-- What a drain slot does to the units: nothing, or one instruction (R195, R200). -/
theorem drainSlot_units {s t : State} (h : drainSlot s = .next t) :
    SameUnits s t ∨ ∃ i u, SameUnits s u ∧ exec i u = .next t := by
  unfold drainSlot dispatch at h
  split at h
  next => cases h; exact .inl ⟨rfl, rfl, rfl, rfl⟩
  next m rest _ =>
    split at h
    next i _ => exact .inr ⟨i, s.withQueue rest, ⟨rfl, rfl, rfl, rfl⟩, h⟩
    next => cases h; exact .inl ⟨rfl, rfl, rfl, rfl⟩

/-- A property of the units that instructions, internal steps and resets keep is kept by every step (R201). -/
theorem step_keeps_units {P : State → Prop} (hsame : ∀ s t, SameUnits s t → P s → P t)
    (hexec : ∀ i s t, exec i s = .next t → P s → P t) (hstep : ∀ s, P s → P (internalStep s))
    (hreset : ∀ p s, P s → P (resetBlock p s)) {s t : State} (h : step s = .next t) (hs : P s) : P t := by
  cases step_cases h with
  | clock j =>
    refine hsame s _ ?_ hs
    rw [continueClock_frame]
    exact ⟨rfl, rfl, rfl, rfl⟩
  | enqueue a v rest =>
    refine hsame s _ ?_ hs
    rw [enqueue_frame]
    exact ⟨rfl, rfl, rfl, rfl⟩
  | reset p rest =>
    have hblock : P (resetBlock p (s.withHostOps rest)) := hreset p _ (hsame s _ ⟨rfl, rfl, rfl, rfl⟩ hs)
    exact hsame (resetBlock p (s.withHostOps rest)) _ ⟨rfl, rfl, rfl, rfl⟩ hblock
  | drain j _ hslot =>
    have hphase : P (s.withPhase (afterDrain s.cfg j)) := hsame s _ ⟨rfl, rfl, rfl, rfl⟩ hs
    obtain hnone | ⟨i, u, hu, hi⟩ := drainSlot_units hslot
    · exact hsame _ t hnone hphase
    · exact hexec i u t hi (hsame _ u hu hphase)
  | step n => exact hstep _ (hsame s _ ⟨rfl, rfl, rfl, rfl⟩ hs)
  | mix =>
    refine hsame s _ ?_ hs
    rw [deliver_frame]
    exact ⟨rfl, rfl, rfl, rfl⟩
  | wait => exact hs
  | queueStatus | tick | clockAndMix | setMuted => exact hsame s _ ⟨rfl, rfl, rfl, rfl⟩ hs

/-! ### The noise registers (R28, R29) -/

/-- The seed of NZ.SEED is coerced away from 0 (R142). -/
theorem seedField_ne_zero (v : Value) : seedField v ≠ 0#23 := by
  unfold seedField
  dsimp only
  split
  · decide
  · assumption

/-- A shift moves bit `i` to bit `i + 1` (R150). -/
theorem lfsrShift_getLsbD_succ (l : Lfsr) (i : Nat) (hi : i + 1 < 23) :
    (lfsrShift l).getLsbD (i + 1) = l.getLsbD i := by
  simp [lfsrShift, hi, BitVec.getLsbD_eq_getElem (show i < 23 by omega)]

/-- A shift puts the feedback into bit 0 (R150). -/
theorem lfsrShift_getLsbD_zero (l : Lfsr) : (lfsrShift l).getLsbD 0 = lfsrFeedback l := by
  simp [lfsrShift]

/-- A shift leaves a nonzero register nonzero: bits 0 to 21 move up, and if they are all 0 the feedback is bit 22 (R28). -/
theorem lfsrShift_ne_zero {l : Lfsr} (hl : l ≠ 0#23) : lfsrShift l ≠ 0#23 := by
  intro hzero
  have hlow : ∀ i, i + 1 < 23 → l.getLsbD i = false := fun i hi => by
    rw [← lfsrShift_getLsbD_succ l i hi, hzero, BitVec.getLsbD_zero]
  have htop : l.getLsbD 22 = false := by
    have hfb := lfsrShift_getLsbD_zero l
    rw [hzero, BitVec.getLsbD_zero, lfsrFeedback, hlow 17 (by omega), Bool.xor_false] at hfb
    exact hfb.symm
  refine hl (BitVec.eq_of_getLsbD_eq fun i hi => ?_)
  rw [BitVec.getLsbD_zero]
  obtain hi' | rfl : i + 1 < 23 ∨ i = 22 := by omega
  · exact hlow i hi'
  · exact htop

/-- `nz.lfsr ≠ 0` and `nz.reload ≠ 0` (R28). -/
structure NoiseSeeded (n : NoiseChannel) : Prop where
  lfsr : n.lfsr ≠ 0#23
  reload : n.reload ≠ 0#23

theorem NoiseSeeded.write {n m : NoiseChannel} (hn : NoiseSeeded n) (hw : NoiseWrite n m) : NoiseSeeded m := by
  obtain ⟨hlfsr, hreload⟩ | ⟨v, hlfsr, hreload⟩ := hw.regs
  · exact ⟨hlfsr ▸ hn.lfsr, hreload ▸ hn.reload⟩
  · exact ⟨hlfsr ▸ seedField_ne_zero v, hreload ▸ seedField_ne_zero v⟩

theorem NoiseSeeded.phaseReset {n : NoiseChannel} (hn : NoiseSeeded n) : NoiseSeeded (noisePhaseReset n) :=
  ⟨hn.reload, hn.reload⟩

/-- The noise timer advances alone, or overflows and the register shifts, with its level as the waveform value (R150). -/
theorem noiseAdvance_cases (c : Config) (n : NoiseChannel) :
    noiseAdvance c n = { n with acc := n.acc + noiseIncrement c n } ∨
    noiseAdvance c n = { n with acc := n.acc + noiseIncrement c n, lfsr := lfsrShift n.lfsr,
                                w := lfsrLevel (lfsrShift n.lfsr) } := by
  unfold noiseAdvance
  dsimp only
  split
  · exact .inr rfl
  · exact .inl rfl

theorem NoiseSeeded.step (c : Config) {n : NoiseChannel} (hn : NoiseSeeded n) : NoiseSeeded (noiseStep c n) := by
  obtain ⟨hlfsr, hreload⟩ := hn
  unfold noiseStep
  obtain hadvance | hshift := noiseAdvance_cases c n
  · rw [hadvance]; exact ⟨hlfsr, hreload⟩
  · rw [hshift]; exact ⟨lfsrShift_ne_zero hlfsr, hreload⟩

theorem exec_noiseSeeded {i : Instr} {s t : State} (h : exec i s = .next t) (hs : NoiseSeeded s.nz) :
    NoiseSeeded t.nz := by
  cases exec_writes h with
  | nz f hf => exact hs.write (hf s.nz)
  | nothing | dds | prt | dac => exact hs

theorem internalStep_noiseSeeded {s : State} (hs : NoiseSeeded s.nz) : NoiseSeeded (internalStep s).nz := by
  rw [internalStep_nz]
  split
  · exact hs.phaseReset.step s.cfg
  · exact hs.step s.cfg

theorem resetBlock_noiseSeeded (p : Bool) (s : State) : NoiseSeeded (resetBlock p s).nz := by
  have hone : (1#23 : Lfsr) ≠ 0#23 := by decide
  rw [resetBlock_nz]
  exact ⟨hone, hone⟩

theorem step_noiseSeeded {s t : State} (h : step s = .next t) (hs : NoiseSeeded s.nz) : NoiseSeeded t.nz :=
  step_keeps_units (P := fun s => NoiseSeeded s.nz) (fun _ _ hsame hs => hsame.nz ▸ hs)
    (fun _ _ _ => exec_noiseSeeded) (fun _ => internalStep_noiseSeeded) (fun p s _ => resetBlock_noiseSeeded p s) h hs

/-- Settles O57. -/
theorem noiseRegistersStayNonzero : Obligations.NoiseRegistersStayNonzero :=
  ⟨by decide, by decide, fun _ _ hlfsr hreload h =>
    have ⟨hlfsr', hreload'⟩ := step_noiseSeeded h ⟨hlfsr, hreload⟩
    ⟨hlfsr', hreload'⟩⟩

/-! ### Volume paths, the noise level and the absent timer (R26, R27; log 3, log 16) -/

theorem pathOk_writeVolume {c : Config} {p : VolumePath} (v : Vol) (hp : pathOk c p) : pathOk c (writeVolume v p) := by
  obtain ⟨hpending, harmed⟩ := hp
  refine ⟨?_, by rw [writeVolume_armed, writeVolume_w, harmed]⟩
  cases hz : p.zcen with
  | true => simp [hz]
  | false => rw [writeVolume_immediate v p hz]; exact hpending

/-- Turning deferral off leaves nothing pending (R104). -/
theorem pathOk_writeDeferral {c : Config} {p : VolumePath} (b : Bool) (hp : pathOk c p) :
    pathOk c (writeDeferral b p) := by
  obtain ⟨_, harmed⟩ := hp
  refine ⟨?_, by rw [writeDeferral_armed, writeDeferral_w, harmed]⟩
  cases b with
  | true => simp
  | false =>
    cases hv : p.pvalid with
    | true => simp [writeDeferral_off_pending p hv]
    | false => simp [writeDeferral_off_nothing p hv, hv]

theorem pathOk_of_pathWrite {c : Config} {p q : VolumePath} (hw : PathWrite p q) (hp : pathOk c p) : pathOk c q := by
  cases hw with
  | same => exact hp
  | volume v => exact pathOk_writeVolume v hp
  | deferral b => exact pathOk_writeDeferral b hp

/-- The gate brings `armed` in line with the waveform value and commits, never defers (R234). -/
theorem pathOk_zcUpdate (c : Config) {p : VolumePath} (hp : p.pvalid = true → p.zcen = true) :
    pathOk c (zcUpdate c p) :=
  ⟨fun hv => by rw [zcUpdate_zcen]; exact hp (zcUpdate_pvalid c p hv), by rw [zcUpdate_armed, zcUpdate_w]⟩

theorem pathOk_cleared (c : Config) (v : Vol) : pathOk c (VolumePath.cleared v) := by
  simp [pathOk, VolumePath.cleared, outsideWindow]

theorem ddsAdvance_path (d : DdsChannel) : (ddsAdvance d).toVolumePath = d.toVolumePath := by
  unfold ddsAdvance; split <;> rfl

theorem pathOk_ddsStep {c : Config} {d : DdsChannel} (hd : pathOk c d.toVolumePath) :
    pathOk c (ddsStep c d).toVolumePath := by
  obtain ⟨hpending, _⟩ := hd
  refine pathOk_zcUpdate c ?_
  simp only [ddsAdvance_path]
  exact hpending

theorem lfsrLevel_cases (l : Lfsr) : lfsrLevel l = 0#10 ∨ lfsrLevel l = 1023#10 := by
  unfold lfsrLevel
  split
  · exact .inr rfl
  · exact .inl rfl

/-- The noise channel's volume path is consistent and its waveform value is 0 or 1023 (R26, R27). -/
structure NoisePathOk (c : Config) (p : VolumePath) : Prop where
  path : pathOk c p
  level : p.w = 0#10 ∨ p.w = 1023#10

theorem PathWrite.w_eq {p q : VolumePath} (hw : PathWrite p q) : q.w = p.w := by
  cases hw with
  | same => rfl
  | volume v => exact writeVolume_w v p
  | deferral b => exact writeDeferral_w b p

theorem NoisePathOk.write {c : Config} {n m : NoiseChannel} (hn : NoisePathOk c n.toVolumePath)
    (hw : NoiseWrite n m) : NoisePathOk c m.toVolumePath :=
  ⟨pathOk_of_pathWrite hw.path hn.path, hw.path.w_eq ▸ hn.level⟩

theorem NoisePathOk.step {c : Config} {n : NoiseChannel} (hn : NoisePathOk c n.toVolumePath) :
    NoisePathOk c (noiseStep c n).toVolumePath := by
  obtain ⟨⟨hpending, _⟩, hlevel⟩ := hn
  unfold noiseStep
  rw [NoiseChannel.modifyPath_path]
  obtain hadvance | hshift := noiseAdvance_cases c n
  · rw [hadvance]; exact ⟨pathOk_zcUpdate c hpending, by rwa [zcUpdate_w]⟩
  · rw [hshift]; exact ⟨pathOk_zcUpdate c hpending, by rw [zcUpdate_w]; exact lfsrLevel_cases _⟩

/-- The part of the invariant that speaks of the units. -/
structure UnitsOk (s : State) : Prop where
  dds : ∀ i : Fin 4, pathOk s.cfg s.dds[i].toVolumePath
  nz : NoisePathOk s.cfg s.nz.toVolumePath
  timer : s.cfg.numPrt = .four → s.prt[4] = PhaseTimer.cleared

theorem UnitsOk.of_same {s t : State} (hsame : SameUnits s t) (h : UnitsOk s) : UnitsOk t := by
  obtain ⟨hcfg, hdds, hnz, hprt⟩ := hsame
  constructor
  · rw [hcfg, hdds]; exact h.dds
  · rw [hcfg, hnz]; exact h.nz
  · rw [hcfg, hprt]; exact h.timer

theorem UnitsOk.modifyDds {s : State} (h : UnitsOk s) (i : Fin 4) {f : DdsChannel → DdsChannel}
    (hf : ∀ d, PathWrite d.toVolumePath (f d).toVolumePath) : UnitsOk (s.modifyDds i f) where
  dds j := by
    by_cases hj : j = i
    · subst hj; rw [State.modifyDds_get_self]; exact pathOk_of_pathWrite (hf _) (h.dds j)
    · rw [State.modifyDds_get_other s i j f hj]; exact h.dds j
  nz := h.nz
  timer := h.timer

/-- The place of an absent fifth timer is out of reach of what changes the present ones (log 3). -/
theorem mapPrt_absentTimer (s : State) (f : Fin 5 → PhaseTimer → PhaseTimer) (hfour : s.cfg.numPrt = .four) :
    (s.mapPrt f).prt[4] = s.prt[4] := by
  have habsent : s.cfg.hasPrt 4 = false := by simp [Config.hasPrt, hfour, PrtCount.num]
  have hget := s.mapPrt_get f 4
  rwa [if_neg (by simp [habsent])] at hget

theorem UnitsOk.mapPrt {s : State} (h : UnitsOk s) (f : Fin 5 → PhaseTimer → PhaseTimer) : UnitsOk (s.mapPrt f) where
  dds := h.dds
  nz := h.nz
  timer hfour := (mapPrt_absentTimer s f hfour).trans (h.timer hfour)

theorem exec_unitsOk {i : Instr} {s t : State} (he : exec i s = .next t) (h : UnitsOk s) : UnitsOk t := by
  cases exec_writes he with
  | nothing => exact h
  | dds j f hf => exact h.modifyDds j hf
  | nz f hf => exact ⟨h.dds, h.nz.write (hf s.nz), h.timer⟩
  | prt u f => exact h.mapPrt _
  | dac c => exact ⟨h.dds, h.nz, h.timer⟩

theorem internalStep_cfg (s : State) : (internalStep s).cfg = s.cfg := by rw [internalStep_frame]

theorem internalStep_unitsOk {s : State} (h : UnitsOk s) : UnitsOk (internalStep s) where
  dds i := by
    rw [internalStep_cfg, internalStep_dds]
    split
    · exact pathOk_ddsStep (d := ddsPhaseReset s.dds[i]) (h.dds i)
    · exact pathOk_ddsStep (h.dds i)
  nz := by
    rw [internalStep_cfg, internalStep_nz]
    split
    · exact NoisePathOk.step (n := noisePhaseReset s.nz) h.nz
    · exact NoisePathOk.step h.nz
  timer := by
    rw [internalStep_cfg, internalStep_prt]
    exact (h.mapPrt _).timer

theorem resetBlock_prt (p : Bool) (s : State) :
    (resetBlock p s).prt = (s.mapPrt fun _ _ => PhaseTimer.cleared).prt := rfl

theorem resetBlock_unitsOk (p : Bool) {s : State} (h : UnitsOk s) : UnitsOk (resetBlock p s) where
  dds i := by rw [resetBlock_dds]; exact pathOk_cleared _ _
  nz := by rw [resetBlock_nz]; exact ⟨pathOk_cleared _ _, .inl rfl⟩
  timer := by rw [resetBlock_prt]; exact (h.mapPrt _).timer

theorem step_unitsOk {s t : State} (h : step s = .next t) (hs : UnitsOk s) : UnitsOk t :=
  step_keeps_units (fun _ _ => UnitsOk.of_same) (fun _ _ _ => exec_unitsOk) (fun _ => internalStep_unitsOk)
    (fun p _ => resetBlock_unitsOk p) h hs

/-! ### The outputs and their sum (R35, R238 to R240) -/

theorem outputOk_zero (ch : Nat) : outputOk ch 0#16 := by
  unfold outputOk; split <;> decide

/-- Every output fits 11 bits and a sign (R238, R240). -/
theorem outputOk_bounds {ch : Nat} {v : Sample} (h : outputOk ch v) : -1023 ≤ v.toInt ∧ v.toInt ≤ 1023 := by
  unfold outputOk at h
  split at h <;> omega

/-- A 10-bit value as an Int16 (R35). -/
theorem outputOk_wave {ch : Nat} (hch : ch < 5) (w : Wave) : outputOk ch (w.setWidth 16) := by
  have hw := w.isLt
  have hval : (w.setWidth 16).toInt = w.toNat := by
    rw [BitVec.toInt_eq_toNat_of_lt] <;> rw [BitVec.toNat_setWidth] <;> omega
  rw [outputOk, if_pos hch, hval]
  omega

/-- The shift of `DacTerm` is the floor of a division by 4 (R240). -/
theorem dacTerm_eq_div (d : DacOut) : dacTerm d = ((d.toNat : Int) - 2047) / 4 := by
  have hshift : dacTerm d = ((d.toNat : Int) - 2047) >>> (2 : Nat) := by
    unfold dacTerm
    generalize (d.toNat : Int) - 2047 = z
    cases z with
    | ofNat n => rfl
    | negSucc n => rfl
  rw [hshift, Int.shiftRight_eq_div_pow]
  rfl

/-- `DacTerm` is in -512..512, for every answer of the port (R240). -/
theorem dacTerm_bounds (d : DacOut) : -512 ≤ dacTerm d ∧ dacTerm d ≤ 512 := by
  have hd := d.isLt
  rw [dacTerm_eq_div]
  omega

/-- An Int16 holds every value of its range (R7). -/
theorem sample_toInt_ofInt {z : Int} (hlo : -32768 ≤ z) (hhi : z < 32768) : (BitVec.ofInt 16 z : Sample).toInt = z := by
  rw [BitVec.toInt_ofInt, Int.bmod_eq_of_le] <;> omega

theorem outputOk_channelOutput (s : State) (ch : Fin 8) : outputOk ch.val (channelOutput s ch) := by
  unfold channelOutput
  split
  next hdds => exact outputOk_wave (by omega) _
  next hdds =>
    split
    next hnz => exact outputOk_wave (by omega) _
    next hnz =>
      obtain ⟨hlo, hhi⟩ := dacTerm_bounds (dacOut s (Fin.ofNat 3 (ch.val - 5)))
      rw [outputOk, if_neg (by omega), sample_toInt_ofInt (by omega) (by omega)]
      exact ⟨hlo, hhi⟩

theorem mixOutputs_get (s : State) (ch : Fin 8) :
    (mixOutputs s)[ch] =
      if s.hasCh ch.val then (if s.mute[ch] then 0#16 else channelOutput s ch) else s.y[ch] := by
  simp [mixOutputs]

theorem resetOutputs_get (s : State) (ch : Fin 8) :
    (resetOutputs s)[ch] = if s.hasCh ch.val then 0#16 else s.y[ch] := by
  simp [resetOutputs]

/-- The eighth channel does not exist with two DAC channels (R6, R12). -/
theorem hasCh_absent {s : State} (htwo : s.cfg.numDac = .two) : s.hasCh 7 = false := by
  simp [State.hasCh, Config.numCh, htwo, DacCount.num]

theorem numCh_le (c : Config) : c.numCh ≤ 8 := by
  unfold Config.numCh
  cases c.numDac <;> decide

/-- An output that is summed is the output of an existing channel (R239). -/
theorem exists_of_mem_sumOutputs {n : Nat} {y : Vector Sample 8} {x : Int}
    (hx : x ∈ (y.toList.take n).map BitVec.toInt) : ∃ ch : Fin 8, ch.val < n ∧ x = y[ch].toInt := by
  obtain ⟨v, hv, rfl⟩ := List.mem_map.mp hx
  obtain ⟨i, hi, rfl⟩ := List.mem_take_iff_getElem.mp hv
  have hi8 : i < 8 := by simpa using (Nat.lt_min.mp hi).2
  exact ⟨⟨i, hi8⟩, (Nat.lt_min.mp hi).1, by simp⟩

/-- The sum of the outputs is far inside an Int16 (R239). -/
theorem sumOutputs_bounds {n : Nat} (hn : n ≤ 8) {y : Vector Sample 8} (hy : ∀ ch : Fin 8, outputOk ch.val y[ch]) :
    -8184 ≤ sumOutputs n y ∧ sumOutputs n y ≤ 8184 := by
  have hbound : ∀ x ∈ (y.toList.take n).map BitVec.toInt, -1023 ≤ x ∧ x ≤ 1023 := fun x hx => by
    obtain ⟨ch, _, rfl⟩ := exists_of_mem_sumOutputs hx
    exact outputOk_bounds (hy ch)
  have hlo := List.card_nsmul_le_sum _ (-1023) fun x hx => (hbound x hx).1
  have hhi := List.sum_le_card_nsmul _ 1023 fun x hx => (hbound x hx).2
  have hlen : ((y.toList.take n).map BitVec.toInt).length ≤ 8 := by simp [hn]
  simp only [nsmul_eq_mul] at hlo hhi
  unfold sumOutputs
  omega

theorem sumOutputs_resetOutputs (s : State) : sumOutputs s.cfg.numCh (resetOutputs s) = 0 := by
  refine List.sum_eq_zero fun x hx => ?_
  obtain ⟨ch, hch, rfl⟩ := exists_of_mem_sumOutputs hx
  rw [resetOutputs_get, if_pos (by simpa [State.hasCh] using hch)]
  rfl

/-- The part of the invariant that speaks of the outputs. -/
structure OutputsOk (c : Config) (y : Vector Sample 8) (master : Sample) : Prop where
  range : ∀ ch : Fin 8, outputOk ch.val y[ch]
  sum : master.toInt = sumOutputs c.numCh y
  absent : c.numDac = .two → y[7] = 0#16

theorem OutputsOk.mix {s : State} (h : OutputsOk s.cfg s.y s.master) :
    OutputsOk s.cfg (mix s).y (mix s).master := by
  have hrange : ∀ ch : Fin 8, outputOk ch.val (mixOutputs s)[ch] := fun ch => by
    rw [mixOutputs_get]
    split
    · split
      · exact outputOk_zero ch.val
      · exact outputOk_channelOutput s ch
    · exact h.range ch
  refine ⟨hrange, ?_, fun htwo => ?_⟩
  · obtain ⟨hlo, hhi⟩ := sumOutputs_bounds (numCh_le s.cfg) hrange
    exact sample_toInt_ofInt (by omega) (by omega)
  · have hget := mixOutputs_get s 7
    rw [if_neg (by simp [hasCh_absent htwo])] at hget
    exact hget.trans (h.absent htwo)

theorem OutputsOk.reset {s : State} (h : OutputsOk s.cfg s.y s.master) : OutputsOk s.cfg (resetOutputs s) 0#16 := by
  refine ⟨fun ch => ?_, by rw [sumOutputs_resetOutputs]; rfl, fun htwo => ?_⟩
  · rw [resetOutputs_get]
    split
    · exact outputOk_zero ch.val
    · exact h.range ch
  · have hget := resetOutputs_get s 7
    rw [if_neg (by simp [hasCh_absent htwo])] at hget
    exact hget.trans (h.absent htwo)

theorem step_outputsOk {s t : State} (h : step s = .next t) (hs : OutputsOk s.cfg s.y s.master) :
    OutputsOk t.cfg t.y t.master := by
  rw [step_cfg h]
  obtain ⟨hy, hm⟩ | ⟨_, hy, hm⟩ | ⟨_, _, _, hy, hm⟩ := step_outputs h
  · rw [hy, hm]; exact hs
  · rw [hy, hm]; exact hs.mix
  · rw [hy, hm]; exact hs.reset

/-- The mute flag of an absent eighth channel stays: `SetMuted` names existing channels and a reset clears only these
(R217, R219, R290; log 3). -/
theorem step_absentMute {s t : State} (h : step s = .next t) (htwo : s.cfg.numDac = .two)
    (hs : s.mute[7] = false) : t.mute[7] = false := by
  obtain hm | ⟨ch, m, _, _, hch, hm⟩ | ⟨_, _, hm⟩ := step_mute h
  · rw [hm, hs]
  · have hlt : ch < 7 := by simpa [Config.numCh, htwo, DacCount.num] using hch
    have hne : (Fin.ofNat 8 ch).val ≠ 7 := by simp only [Fin.val_ofNat]; omega
    rw [hm, Vector.getElem_set_ne _ _ hne, hs]
  · rw [hm]
    simp [resetMute, hasCh_absent htwo, hs]

/-! ### The phase (R201) -/

/-- A legal configuration has at least one drain slot and one internal step in a tick (R6). -/
theorem legal_counts {c : Config} (h : c.legal = true) : 1 ≤ c.drain ∧ 1 ≤ c.steps := by
  simp only [Config.legal, Bool.and_eq_true, decide_eq_true_eq] at h
  obtain ⟨⟨_, hdrain, _⟩, hsteps, _⟩ := h
  exact ⟨hdrain, hsteps⟩

theorem phaseOk_afterDrain {c : Config} (hsteps : 1 ≤ c.steps) (j : Nat) : phaseOk c (afterDrain c j) := by
  unfold afterDrain
  split
  next hlt => exact hlt
  next => exact hsteps

theorem phaseOk_afterStep (c : Config) (n : Nat) : phaseOk c (afterStep c n) := by
  unfold afterStep
  split
  next hlt => exact hlt
  next => exact trivial

theorem phaseOk_continueClock {s : State} (hdrain : 1 ≤ s.cfg.drain) (hs : phaseOk s.cfg s.phase) (j : ClockJob) :
    phaseOk s.cfg (continueClock j s).phase := by
  unfold continueClock
  split
  · exact hs
  · exact hdrain

theorem step_phaseOk {s t : State} (h : step s = .next t) (hlegal : s.cfg.legal = true)
    (hs : phaseOk s.cfg s.phase) : phaseOk t.cfg t.phase := by
  obtain ⟨hdrain, hsteps⟩ := legal_counts hlegal
  rw [step_cfg h]
  cases step_cases h with
  | clock j => exact phaseOk_continueClock hdrain hs j
  | enqueue a v rest => rw [enqueue_frame]; exact hs
  | tick rest => exact hdrain
  | drain j _ hslot => rw [drainSlot_frame hslot]; exact phaseOk_afterDrain hsteps j
  | step n => rw [internalStep_frame]; exact phaseOk_afterStep s.cfg n
  | mix => rw [deliver_frame]; exact trivial
  | wait | queueStatus | clockAndMix | setMuted | reset => exact hs

/-! ### The invariant -/

/-- Settles O58: the parameters stay, and the units, the queue, the outputs, the mute flags and the phase are each kept. -/
theorem stepKeepsInvariant : Obligations.StepKeepsInvariant := by
  intro s t hs h
  have hseeded : NoiseSeeded t.nz := step_noiseSeeded h ⟨hs.lfsr, hs.reload⟩
  have hunits : UnitsOk t := step_unitsOk h ⟨hs.dds, ⟨hs.nz, hs.level⟩, hs.absentTimer⟩
  have houtputs : OutputsOk t.cfg t.y t.master :=
    step_outputsOk h ⟨hs.outputs, hs.master, fun htwo => (hs.absentChannel htwo).2⟩
  exact {
    legal := by rw [step_cfg h]; exact hs.legal
    dds := hunits.dds
    nz := hunits.nz.path
    lfsr := hseeded.lfsr
    reload := hseeded.reload
    level := hunits.nz.level
    queue := step_queue_bound h hs.queue
    phase := step_phaseOk h hs.legal hs.phase
    outputs := houtputs.range
    master := houtputs.sum
    absentTimer := hunits.timer
    absentChannel := fun htwo =>
      have htwo' : s.cfg.numDac = .two := step_cfg h ▸ htwo
      ⟨step_absentMute h htwo' (hs.absentChannel htwo').1, houtputs.absent htwo⟩ }

end Sys2Proof.Machine
end

section
/-! A command applied a second time (R65): the shared updates and the volume path are idempotent, and every command but
DAC.FWD is built of them. -/

namespace Sys2Proof.Machine

/-! ### Idempotent updates -/

theorem State.modifyDds_twice {f : DdsChannel → DdsChannel} (hf : ∀ d, f (f d) = f d) (i : Fin 4) (s : State) :
    (s.modifyDds i f).modifyDds i f = s.modifyDds i f := by
  simp [State.modifyDds, hf]

theorem State.modifyNz_twice {f : NoiseChannel → NoiseChannel} (hf : ∀ n, f (f n) = f n) (s : State) :
    (s.modifyNz f).modifyNz f = s.modifyNz f := by
  simp [State.modifyNz, hf]

theorem State.mapPrt_twice {f : Fin 5 → PhaseTimer → PhaseTimer} (hf : ∀ u p, f u (f u p) = f u p) (s : State) :
    (s.mapPrt f).mapPrt f = s.mapPrt f := by
  simp +contextual [State.mapPrt, hf]

theorem State.modifyPrt_twice {f : PhaseTimer → PhaseTimer} (hf : ∀ p, f (f p) = f p) (t : Fin 8) (s : State) :
    (s.modifyPrt t f).modifyPrt t f = s.modifyPrt t f := by
  refine State.mapPrt_twice (fun u p => ?_) s
  by_cases hu : u.val = t.val
  · simp only [if_pos hu, hf]
  · simp only [if_neg hu]

/-- The first write leaves `zcen`, so the second takes the same branch (R103, R143). -/
theorem writeVolume_twice (v : Vol) (c : VolumePath) : writeVolume v (writeVolume v c) = writeVolume v c := by
  cases h : c.zcen
  · simp only [writeVolume_immediate v _ h, writeVolume_immediate v { c with vol := v } h]
  · simp only [writeVolume_deferred v _ h, writeVolume_deferred v { c with pvol := v, pvalid := true } h]

/-- A commit leaves nothing pending, so turning deferral off again commits nothing (R104, R144). -/
theorem writeDeferral_twice (b : Bool) (c : VolumePath) :
    writeDeferral b (writeDeferral b c) = writeDeferral b c := by
  cases b with
  | true => simp only [writeDeferral_on]
  | false =>
    cases h : c.pvalid
    · simp only [writeDeferral_off_nothing c h, writeDeferral_off_nothing { c with zcen := false } h]
    · rw [writeDeferral_off_pending c h, writeDeferral_off_nothing _ rfl]

theorem DdsChannel.modifyPath_twice {f : VolumePath → VolumePath} (hf : ∀ c, f (f c) = f c) (d : DdsChannel) :
    (d.modifyPath f).modifyPath f = d.modifyPath f := by
  simp [DdsChannel.modifyPath, hf]

theorem NoiseChannel.modifyPath_twice {f : VolumePath → VolumePath} (hf : ∀ c, f (f c) = f c) (n : NoiseChannel) :
    (n.modifyPath f).modifyPath f = n.modifyPath f := by
  simp [NoiseChannel.modifyPath, hf]

/-! ### Commands -/

/-- A command that is an idempotent update of the state meets the last sentence of R65. -/
theorem exec_twice {i : Instr} {g : State → State} (hexec : ∀ s, exec i s = .next (g s)) (hg : ∀ s, g (g s) = g s)
    (s : State) : ∃ t, exec i s = .next t ∧ exec i t = .next t :=
  ⟨g s, hexec s, by rw [hexec, hg]⟩

theorem exec_twice_of_modifyDds {i : Instr} {n : Fin 4} {f : DdsChannel → DdsChannel}
    (hexec : ∀ s, exec i s = .next (s.modifyDds n f)) (hf : ∀ d, f (f d) = f d) (s : State) :
    ∃ t, exec i s = .next t ∧ exec i t = .next t :=
  exec_twice hexec (State.modifyDds_twice hf n) s

theorem exec_twice_of_modifyNz {i : Instr} {f : NoiseChannel → NoiseChannel}
    (hexec : ∀ s, exec i s = .next (s.modifyNz f)) (hf : ∀ n, f (f n) = f n) (s : State) :
    ∃ t, exec i s = .next t ∧ exec i t = .next t :=
  exec_twice hexec (State.modifyNz_twice hf) s

theorem exec_twice_of_modifyPrt {i : Instr} {t : Fin 8} {f : PhaseTimer → PhaseTimer}
    (hexec : ∀ s, exec i s = .next (s.modifyPrt t f)) (hf : ∀ p, f (f p) = f p) (s : State) :
    ∃ u, exec i s = .next u ∧ exec i u = .next u :=
  exec_twice hexec (State.modifyPrt_twice hf t) s

/-- A waveform code above 5 changes nothing, any other writes the field (R101). -/
theorem exec_ddsWave_twice (n : Fin 4) (v : Value) (s : State) :
    ∃ t, exec (.ddsWave n v) s = .next t ∧ exec (.ddsWave n v) t = .next t := by
  cases hcode : waveformOfCode v.toNat with
  | none => exact exec_twice (g := id) (fun _ => by simp only [exec, execDdsWave, hcode, id]) (fun _ => rfl) s
  | some wf =>
    exact exec_twice_of_modifyDds (n := n) (f := fun d => { d with wave := wf })
      (fun _ => by simp only [exec, execDdsWave, hcode]) (fun _ => rfl) s

/-- The write leaves `intclk`, so both applications are lost or both are made (R140). -/
theorem exec_nzFreq_twice (v : Value) (s : State) :
    ∃ t, exec (.nzFreq v) s = .next t ∧ exec (.nzFreq v) t = .next t := by
  refine exec_twice (fun _ => rfl) (fun u => ?_) s
  cases hclk : u.nz.intclk with
  | true => simp [hclk]
  | false => simp [hclk, State.modifyNz]

/-- Settles O19, command by command: each changes its unit by an idempotent function, or changes nothing. -/
theorem secondApplicationChangesNothing : Obligations.SecondApplicationChangesNothing := by
  intro i s hfwd
  cases i with
  | ddsFreq n v => exact exec_twice_of_modifyDds (fun _ => rfl) (fun _ => by rfl) s
  | ddsWave n v => exact exec_ddsWave_twice n v s
  | ddsPw n v => exact exec_twice_of_modifyDds (fun _ => rfl) (fun _ => by rfl) s
  | ddsVol n v =>
    exact exec_twice_of_modifyDds (fun _ => rfl) (DdsChannel.modifyPath_twice (writeVolume_twice (volField v))) s
  | ddsZcen n v =>
    exact exec_twice_of_modifyDds (fun _ => rfl) (DdsChannel.modifyPath_twice (writeDeferral_twice (bitField v))) s
  | nzFreq v => exact exec_nzFreq_twice v s
  | nzClk v => exact exec_twice_of_modifyNz (fun _ => rfl) (fun _ => by rfl) s
  | nzSeed v => exact exec_twice_of_modifyNz (fun _ => rfl) (fun _ => by rfl) s
  | nzVol v =>
    exact exec_twice_of_modifyNz (fun _ => rfl) (NoiseChannel.modifyPath_twice (writeVolume_twice (volField v))) s
  | nzZcen v =>
    exact exec_twice_of_modifyNz (fun _ => rfl) (NoiseChannel.modifyPath_twice (writeDeferral_twice (bitField v))) s
  | dacFwd k cmd v => exact absurd rfl (hfwd k cmd v)
  | prtFreq t v => exact exec_twice_of_modifyPrt (fun _ => rfl) (fun _ => by rfl) s
  | prtMask t v => exact exec_twice_of_modifyPrt (fun _ => rfl) (fun _ => by rfl) s
  | prtEn t v => exact exec_twice_of_modifyPrt (fun _ => rfl) (fun _ => by rfl) s

end Sys2Proof.Machine
end

section
/-! Encoding (R80 to R93): what `decode` reads at the addresses of each unit, what `encode` spells there, and the round trip
in both directions; and the drain slots that consume a command without effect (R90, R91, R195). -/

namespace Sys2Proof

/-! ### The address map (R83) -/

/-- Every channel index belongs to one unit: DDS 0 to 3, noise 4, DAC 5 to 7, timers from 8 (R83). -/
theorem channel_cases : ∀ ch : BitVec 4,
    (∃ i : Fin 4, ch = BitVec.ofNat 4 i.val) ∨ ch = 4#4 ∨ (∃ k : Fin 3, ch = BitVec.ofNat 4 (5 + k.val)) ∨
      ∃ t : Fin 8, ch = BitVec.ofNat 4 (8 + t.val) := by
  decide

/-- A command is one to a DDS channel, the noise channel, a DAC channel or a timer (R83). -/
theorem Command.unit_cases {P : Command → Prop}
    (dds : ∀ (i : Fin 4) (cmd : CmdType) (v : Value), P ⟨addrMake (BitVec.ofNat 4 i.val) cmd, v⟩)
    (noise : ∀ (cmd : CmdType) (v : Value), P ⟨addrMake 4#4 cmd, v⟩)
    (dac : ∀ (k : Fin 3) (cmd : CmdType) (v : Value), P ⟨addrMake (BitVec.ofNat 4 (5 + k.val)) cmd, v⟩)
    (timer : ∀ (t : Fin 8) (cmd : CmdType) (v : Value), P ⟨addrMake (BitVec.ofNat 4 (8 + t.val)) cmd, v⟩)
    (m : Command) : P m := by
  obtain ⟨a, v⟩ := m
  rw [← addrMake_fields a]
  obtain ⟨i, hi⟩ | hn | ⟨k, hk⟩ | ⟨t, ht⟩ := channel_cases (addrCh a)
  · rw [hi]; exact dds i _ v
  · rw [hn]; exact noise _ v
  · rw [hk]; exact dac k _ v
  · rw [ht]; exact timer t _ v

theorem addrMake_div (ch : BitVec 4) (cmd : CmdType) : (addrMake ch cmd).toNat / 16 = ch.toNat := by
  rw [← addrCh_toNat, addrCh_addrMake]

theorem addrMake_mod (ch : BitVec 4) (cmd : CmdType) : (addrMake ch cmd).toNat % 16 = cmd.toNat := by
  rw [← addrCmd_toNat, addrCmd_addrMake]

theorem ddsIndex_toNat (i : Fin 4) : (BitVec.ofNat 4 i.val).toNat = i.val := Nat.mod_eq_of_lt (by omega)

theorem dacIndex_toNat (k : Fin 3) : (BitVec.ofNat 4 (5 + k.val)).toNat = 5 + k.val := Nat.mod_eq_of_lt (by omega)

theorem timerIndex_toNat (t : Fin 8) : (BitVec.ofNat 4 (8 + t.val)).toNat = 8 + t.val := Nat.mod_eq_of_lt (by omega)

/-! ### Decoding, unit by unit (R89) -/

theorem decode_dds (c : Config) (i : Fin 4) (cmd : CmdType) (v : Value) :
    decode c ⟨addrMake (BitVec.ofNat 4 i.val) cmd, v⟩ = decodeDds i cmd v := by
  rw [decode_addrMake, ddsIndex_toNat, if_pos (by omega), Fin.ofNat_val_eq_self]

theorem decode_noise (c : Config) (cmd : CmdType) (v : Value) :
    decode c ⟨addrMake 4#4 cmd, v⟩ = decodeNoise cmd v :=
  decode_addrMake c 4#4 cmd v

theorem decode_dac (c : Config) (k : Fin 3) (cmd : CmdType) (v : Value) :
    decode c ⟨addrMake (BitVec.ofNat 4 (5 + k.val)) cmd, v⟩ =
      if c.hasDac k then .instr (.dacFwd k cmd v) else .ignored .absentDac := by
  rw [decode_addrMake, dacIndex_toNat, if_neg (by omega), if_neg (by omega), if_pos (by omega),
    Nat.add_sub_cancel_left, Fin.ofNat_val_eq_self]

theorem decode_timer (c : Config) (t : Fin 8) (cmd : CmdType) (v : Value) :
    decode c ⟨addrMake (BitVec.ofNat 4 (8 + t.val)) cmd, v⟩ =
      if c.hasPrt t.val then decodePrt t cmd v else .ignored .absentTimer := by
  rw [decode_addrMake, timerIndex_toNat, if_neg (by omega), if_neg (by omega), if_neg (by omega),
    Nat.add_sub_cancel_left, Fin.ofNat_val_eq_self]

/-! ### The round trip (R85, R92) -/

theorem decode_encode {c : Config} {i : Instr} (h : i.wellFormed c = true) : decode c (encode i) = .instr i := by
  cases i with
  | ddsFreq n v => exact decode_dds c n 0#4 v
  | ddsWave n v => exact decode_dds c n 1#4 v
  | ddsPw n v => exact decode_dds c n 2#4 v
  | ddsVol n v => exact decode_dds c n 3#4 v
  | ddsZcen n v => exact decode_dds c n 4#4 v
  | nzFreq v => exact decode_noise c 0#4 v
  | nzClk v => exact decode_noise c 1#4 v
  | nzSeed v => exact decode_noise c 2#4 v
  | nzVol v => exact decode_noise c 3#4 v
  | nzZcen v => exact decode_noise c 4#4 v
  | dacFwd k cmd v => exact (decode_dac c k cmd v).trans (if_pos h)
  | prtFreq t v => exact (decode_timer c t 0#4 v).trans (if_pos h)
  | prtMask t v => exact (decode_timer c t 1#4 v).trans (if_pos h)
  | prtEn t v => exact (decode_timer c t 2#4 v).trans (if_pos h)

/-- Settles O1. -/
theorem encodedInstructionDecodes : Obligations.EncodedInstructionDecodes :=
  fun _ _ => decode_encode

/-- A command type with the number of the one an instruction is encoded with is that command type (R85). -/
theorem encode_of_cmd_toNat {i : Instr} {ch : BitVec 4} {k cmd : CmdType} {v : Value}
    (henc : encode i = ⟨addrMake ch k, v⟩) (hcmd : cmd.toNat = k.toNat) : encode i = ⟨addrMake ch cmd, v⟩ := by
  rw [henc, BitVec.eq_of_toNat_eq hcmd]

/-- What a DDS channel's command types decode to is encoded with them (R85). -/
theorem encode_of_decodeDds {n : Fin 4} {cmd : CmdType} {v : Value} {i : Instr} (h : decodeDds n cmd v = .instr i)
    (c : Config) : encode i = ⟨addrMake (BitVec.ofNat 4 n.val) cmd, v⟩ ∧ i.wellFormed c = true := by
  unfold decodeDds at h
  split at h <;> cases h
  all_goals next hcmd => exact ⟨encode_of_cmd_toNat rfl hcmd, rfl⟩

/-- What the noise channel's command types decode to is encoded with them (R85). -/
theorem encode_of_decodeNoise {cmd : CmdType} {v : Value} {i : Instr} (h : decodeNoise cmd v = .instr i)
    (c : Config) : encode i = ⟨addrMake 4#4 cmd, v⟩ ∧ i.wellFormed c = true := by
  unfold decodeNoise at h
  split at h <;> cases h
  all_goals next hcmd => exact ⟨encode_of_cmd_toNat rfl hcmd, rfl⟩

/-- What a timer's command types decode to is encoded with them, and well formed where the timer exists (R83, R85). -/
theorem encode_of_decodePrt {t : Fin 8} {cmd : CmdType} {v : Value} {i : Instr} (h : decodePrt t cmd v = .instr i)
    {c : Config} (ht : c.hasPrt t.val = true) :
    encode i = ⟨addrMake (BitVec.ofNat 4 (8 + t.val)) cmd, v⟩ ∧ i.wellFormed c = true := by
  unfold decodePrt at h
  split at h <;> cases h
  all_goals next hcmd => exact ⟨encode_of_cmd_toNat rfl hcmd, ht⟩

/-- Settles O2, unit by unit. -/
theorem decodedCommandIsItsEncoding : Obligations.DecodedCommandIsItsEncoding := by
  intro c m i h
  cases m using Command.unit_cases with
  | dds n cmd v => rw [decode_dds] at h; exact encode_of_decodeDds h c
  | noise cmd v => rw [decode_noise] at h; exact encode_of_decodeNoise h c
  | dac k cmd v =>
    rw [decode_dac] at h
    split at h <;> cases h
    next hk => exact ⟨rfl, hk⟩
  | timer t cmd v =>
    rw [decode_timer] at h
    split at h
    next ht => exact encode_of_decodePrt h ht
    next => cases h

/-! ### Ignored addresses (R84, R89, R90) -/

theorem decodeDds_ignored_iff (i : Fin 4) (cmd : CmdType) (v : Value) :
    (∃ why, decodeDds i cmd v = .ignored why) ↔ 5 ≤ cmd.toNat := by
  unfold decodeDds
  split
  case h_6 => exact iff_of_true ⟨_, rfl⟩ (by grind)
  all_goals exact iff_of_false (fun ⟨_, hwhy⟩ => by cases hwhy) (by omega)

theorem decodeNoise_ignored_iff (cmd : CmdType) (v : Value) :
    (∃ why, decodeNoise cmd v = .ignored why) ↔ 5 ≤ cmd.toNat := by
  unfold decodeNoise
  split
  case h_6 => exact iff_of_true ⟨_, rfl⟩ (by grind)
  all_goals exact iff_of_false (fun ⟨_, hwhy⟩ => by cases hwhy) (by omega)

theorem decodePrt_ignored_iff (t : Fin 8) (cmd : CmdType) (v : Value) :
    (∃ why, decodePrt t cmd v = .ignored why) ↔ 3 ≤ cmd.toNat := by
  unfold decodePrt
  split
  case h_4 => exact iff_of_true ⟨_, rfl⟩ (by grind)
  all_goals exact iff_of_false (fun ⟨_, hwhy⟩ => by cases hwhy) (by omega)

theorem hasDac_eq_false_iff (c : Config) (k : Fin 3) : c.hasDac k = false ↔ c.numDac.num ≤ k.val := by
  rw [Config.hasDac, decide_eq_false_iff_not, Nat.not_lt]

theorem hasPrt_eq_false_iff (c : Config) (t : Nat) : c.hasPrt t = false ↔ c.numPrt.num ≤ t := by
  rw [Config.hasPrt, decide_eq_false_iff_not, Nat.not_lt]

theorem decode_dac_ignored_iff (c : Config) (k : Fin 3) (cmd : CmdType) (v : Value) :
    (∃ why, decode c ⟨addrMake (BitVec.ofNat 4 (5 + k.val)) cmd, v⟩ = .ignored why) ↔ c.hasDac k = false := by
  rw [decode_dac]
  cases c.hasDac k with
  | false => simp
  | true => simp

theorem decode_timer_ignored_iff (c : Config) (t : Fin 8) (cmd : CmdType) (v : Value) :
    (∃ why, decode c ⟨addrMake (BitVec.ofNat 4 (8 + t.val)) cmd, v⟩ = .ignored why) ↔
      c.hasPrt t.val = false ∨ 3 ≤ cmd.toNat := by
  rw [decode_timer]
  cases c.hasPrt t.val with
  | false => simp
  | true => simpa using decodePrt_ignored_iff t cmd v

/-- Settles O3: each unit's channel indices meet one clause only. -/
theorem ignoredAddresses : Obligations.IgnoredAddresses := by
  intro c m
  cases m using Command.unit_cases with
  | dds i cmd v =>
    rw [decode_dds, decodeDds_ignored_iff, addrMake_div, addrMake_mod, ddsIndex_toNat]
    omega
  | noise cmd v =>
    rw [decode_noise, decodeNoise_ignored_iff, addrMake_div, addrMake_mod]
    simp
  | dac k cmd v =>
    rw [decode_dac_ignored_iff, hasDac_eq_false_iff, addrMake_div, addrMake_mod, dacIndex_toNat]
    omega
  | timer t cmd v =>
    rw [decode_timer_ignored_iff, hasPrt_eq_false_iff, addrMake_div, addrMake_mod, timerIndex_toNat]
    omega

/-! ### Words (R80, R93) -/

theorem Command.toWord_toNat (m : Command) : m.toWord.toNat = m.addr.toNat * 2 ^ 32 + m.value.toNat := by
  rw [Command.toWord, BitVec.toNat_append, ← Nat.shiftLeft_add_eq_or_of_lt m.value.isLt, Nat.shiftLeft_eq]

theorem Command.ofWord_toWord (m : Command) : Command.ofWord m.toWord = m := by
  rw [Command.ofWord, Command.toWord, BitVec.extractLsb'_append_eq_left, BitVec.extractLsb'_append_eq_right]

theorem decode_ofWord_encode {c : Config} {i : Instr} (h : i.wellFormed c = true) :
    decode c (Command.ofWord (encode i).toWord) = .instr i := by
  rw [Command.ofWord_toWord, decode_encode h]

/-- Settles O4: each word is the encoding of the instruction R93 names. -/
theorem specWordsDecode : Obligations.SpecWordsDecode :=
  ⟨decode_ofWord_encode (i := .ddsFreq 2 0x01000000#32) rfl, decode_ofWord_encode (i := .nzSeed 0#32) rfl,
    decode_ofWord_encode (i := .prtMask 1 0x11#32) rfl, decode_ofWord_encode (i := .dacFwd 1 3#4 7#32) rfl,
    fun m => ⟨m.toWord_toNat, m.ofWord_toWord⟩⟩

end Sys2Proof

namespace Sys2Proof.Machine

/-! ### Units that do not exist (R83; log 13) -/

theorem exec_dacFwd_absent {s : State} {k : Fin 3} (h : s.cfg.hasDac k = false) (cmd : CmdType) (v : Value) :
    exec (.dacFwd k cmd v) s = .next s :=
  congrArg Host.Outcome.next (if_neg (Bool.eq_false_iff.mp h))

theorem next_modifyPrt_absent {s : State} {t : Fin 8} (h : s.cfg.hasPrt t.val = false) (f : PhaseTimer → PhaseTimer) :
    (.next (s.modifyPrt t f) : Out) = .next s := by
  rw [State.modifyPrt_absent s t f ((hasPrt_eq_false_iff _ _).mp h)]

/-- Settles O18: an ill-formed instruction is one to a DAC channel or a timer. -/
theorem absentUnitsDoNothing : Obligations.AbsentUnitsDoNothing := by
  intro i s h
  cases i with
  | dacFwd k cmd v => exact ⟨exec_dacFwd_absent h cmd v, (decode_dac_ignored_iff _ k cmd v).mpr h⟩
  | prtFreq t v => exact ⟨next_modifyPrt_absent h _, (decode_timer_ignored_iff _ t 0#4 v).mpr (.inl h)⟩
  | prtMask t v => exact ⟨next_modifyPrt_absent h _, (decode_timer_ignored_iff _ t 1#4 v).mpr (.inl h)⟩
  | prtEn t v => exact ⟨next_modifyPrt_absent h _, (decode_timer_ignored_iff _ t 2#4 v).mpr (.inl h)⟩
  | ddsFreq | ddsWave | ddsPw | ddsVol | ddsZcen | nzFreq | nzClk | nzSeed | nzVol | nzZcen => cases h

/-! ### Drain slots without effect (R90, R91, R195) -/

theorem dispatch_ignored {s : State} {m : Command} {why : Reserved} (h : decode s.cfg m = .ignored why) :
    dispatch m s = .next s := by
  rw [dispatch, h]

theorem drainSlot_nil {s : State} (h : s.queue = []) : drainSlot s = .next s := by
  rw [drainSlot, h]

theorem drainSlot_cons {s : State} {m : Command} {rest : List Command} (h : s.queue = m :: rest) :
    drainSlot s = dispatch m (s.withQueue rest) := by
  rw [drainSlot, h]

/-- IDLE with nothing in progress and nothing asked for (R282). -/
theorem step_waiting {s : State} (hphase : s.phase = .idle) (hclock : s.clock = none) (hops : s.hostOps = []) :
    step s = .next s := by
  rw [step_idle s hphase, idleAction, hclock, hops]

/-- Settles O40. -/
theorem nothingToDoChangesNothing : Obligations.NothingToDoChangesNothing := by
  refine ⟨fun s j hphase => ⟨fun m rest why hqueue hdec => ?_, fun hqueue => ?_⟩, fun s => step_waiting⟩
  · calc step s = drainSlot (s.withPhase (afterDrain s.cfg j)) := step_drain s j hphase
      _ = dispatch m ((s.withPhase (afterDrain s.cfg j)).withQueue rest) := drainSlot_cons hqueue
      _ = .next ((s.withPhase (afterDrain s.cfg j)).withQueue rest) := dispatch_ignored hdec
  · calc step s = drainSlot (s.withPhase (afterDrain s.cfg j)) := step_drain s j hphase
      _ = .next (s.withPhase (afterDrain s.cfg j)) := drainSlot_nil hqueue

end Sys2Proof.Machine
end

section
/-! The DDS channels: the five commands (R100 to R104), the clock step and its waveform values (R110 to R117), the period of
the accumulator in use (R119), and the phase reset before the advance (R121). -/

namespace Sys2Proof.Machine

/-! ### Operands (R85, R87) -/

/-- The address of a command to a DDS channel, `i << 4 | cmd` (R81). -/
theorem ddsAddr_toNat (i : Fin 4) (cmd : CmdType) :
    (addrMake (BitVec.ofNat 4 i.val) cmd).toNat = i.val * 16 + cmd.toNat := by
  rw [addrMake_toNat, ddsIndex_toNat]

theorem freqField_eq (v : Value) : freqField v = BitVec.ofNat 28 v.toNat :=
  BitVec.eq_of_toNat_eq (freqField_toNat v)

theorem pwField_eq (v : Value) : pwField v = BitVec.ofNat 10 v.toNat :=
  BitVec.eq_of_toNat_eq (pwField_toNat v)

theorem volField_eq (v : Value) : volField v = BitVec.ofNat 8 v.toNat :=
  BitVec.eq_of_toNat_eq (volField_toNat v)

theorem bitField_of_odd {v : Value} (h : v.toNat % 2 = 1) : bitField v = true := by
  rw [bitField_eq, h]; rfl

theorem bitField_of_even {v : Value} (h : v.toNat % 2 = 0) : bitField v = false := by
  rw [bitField_eq, h]; rfl

/-- The codes that name no waveform are those above 5 (R87). -/
theorem waveformOfCode_eq_none_iff (n : Nat) : waveformOfCode n = none ↔ 5 < n := by
  unfold waveformOfCode
  split
  case h_7 => exact iff_of_true rfl (by grind)
  all_goals exact iff_of_false nofun (by omega)

/-! ### Commands (R100 to R104) -/

/-- Settles O5. -/
theorem ddsFreqSetsIncrement : Obligations.DdsFreqSetsIncrement := by
  intro i v s
  refine ⟨ddsAddr_toNat i 0#4, _, rfl, ?_, s.modifyDds_only i _⟩
  rw [State.modifyDds_get_self, freqField_eq]

/-- Settles O6, by whether the value is a waveform code. -/
theorem ddsWaveSelectsOrIgnores : Obligations.DdsWaveSelectsOrIgnores := by
  intro i v s
  refine ⟨ddsAddr_toNat i 1#4, ?_⟩
  cases hcode : waveformOfCode v.toNat with
  | none =>
    have hlarge : 5 < v.toNat := (waveformOfCode_eq_none_iff _).mp hcode
    have hexec : exec (.ddsWave i v) s = .next s := by simp only [exec, execDdsWave, hcode]
    exact ⟨s, hexec, ⟨fun _ _ => rfl, rfl⟩, rfl, fun hle => absurd hle (by omega), fun _ => rfl⟩
  | some wf =>
    obtain ⟨hwf, hle⟩ := waveformOfCode_code _ wf hcode
    have hexec : exec (.ddsWave i v) s = .next (s.modifyDds i fun d => { d with wave := wf }) := by
      simp only [exec, execDdsWave, hcode]
    refine ⟨_, hexec, s.modifyDds_only i _, ?_, fun _ => ?_, fun hlarge => absurd hlarge (by omega)⟩
    · rw [State.modifyDds_get_self]
    · rw [State.modifyDds_get_self]; exact hwf

/-- Settles O7. -/
theorem ddsPwSetsPulseWidth : Obligations.DdsPwSetsPulseWidth := by
  intro i v s
  refine ⟨ddsAddr_toNat i 2#4, _, rfl, ?_, s.modifyDds_only i _⟩
  rw [State.modifyDds_get_self, pwField_eq]

/-- Settles O8. -/
theorem ddsVolSetsOrDefers : Obligations.DdsVolSetsOrDefers := by
  intro i v s
  refine ⟨ddsAddr_toNat i 3#4, _, rfl, s.modifyDds_only i _, fun hzcen => ?_, fun hzcen => ?_⟩
  · rw [State.modifyDds_get_self, DdsChannel.modifyPath, writeVolume_immediate _ _ hzcen, volField_eq]
  · rw [State.modifyDds_get_self, DdsChannel.modifyPath, writeVolume_deferred _ _ hzcen, volField_eq]

/-- Settles O9. -/
theorem ddsZcenSwitchesDeferral : Obligations.DdsZcenSwitchesDeferral := by
  intro i v s
  refine ⟨ddsAddr_toNat i 4#4, _, rfl, s.modifyDds_only i _, fun hodd => ?_, fun heven hnone => ?_,
    fun heven hpending => ?_⟩
  · rw [State.modifyDds_get_self, DdsChannel.modifyPath, bitField_of_odd hodd, writeDeferral_on]
  · rw [State.modifyDds_get_self, DdsChannel.modifyPath, bitField_of_even heven, writeDeferral_off_nothing _ hnone]
  · rw [State.modifyDds_get_self, DdsChannel.modifyPath, bitField_of_even heven, writeDeferral_off_pending _ hpending]

/-! ### The waveform value (R111 to R117) -/

/-- The top ten phase bits, in exact arithmetic (R112, R116). -/
theorem phaseTop_toNat (acc : Phase28) : (acc.extractLsb' 18 10).toNat = acc.toNat / 2 ^ 18 := by
  rw [BitVec.extractLsb'_toNat, Nat.shiftRight_eq_div_pow]
  omega

/-- The top bit of a word tells its upper half from its lower (R113 to R115). -/
theorem getLsbD_top {w : Nat} (x : BitVec (w + 1)) : x.getLsbD w = decide (2 ^ w ≤ x.toNat) :=
  (BitVec.msb_eq_getLsbD_last x).symm.trans (BitVec.msb_eq_decide x)

/-- A square wave is at its level in the first half of a period and 0 in the second (R114, R115). -/
theorem square_toNat (acc : Phase28) (level : Wave) :
    (if acc.getLsbD 27 then 0#10 else level).toNat = if acc.toNat < 2 ^ 27 then level.toNat else 0 := by
  simp only [getLsbD_top, decide_eq_true_eq]
  by_cases hfirst : acc.toNat < 2 ^ 27
  · rw [if_neg (Nat.not_le_of_lt hfirst), if_pos hfirst]
  · rw [if_pos (Nat.le_of_not_lt hfirst), if_neg hfirst]; rfl

/-- The triangle rises over the first half of a period and falls over the second (R113). -/
theorem triangleAt_toNat (acc : Phase28) :
    (triangleAt acc).toNat =
      if acc.toNat / 2 ^ 17 < 1024 then acc.toNat / 2 ^ 17 else 1023 - (acc.toNat / 2 ^ 17 - 1024) := by
  have hp : (acc.extractLsb' 17 11).toNat = acc.toNat / 2 ^ 17 := by
    rw [BitVec.extractLsb'_toNat, Nat.shiftRight_eq_div_pow]; omega
  have hlow : ((acc.extractLsb' 17 11).extractLsb' 0 10).toNat = acc.toNat / 2 ^ 17 % 1024 := by
    rw [BitVec.extractLsb'_toNat, hp]; rfl
  simp only [triangleAt, getLsbD_top, hp, decide_eq_true_eq]
  by_cases hrise : acc.toNat / 2 ^ 17 < 1024
  · rw [if_neg (by omega), if_pos hrise, hlow, Nat.mod_eq_of_lt hrise]
  · rw [if_pos (by omega), if_neg hrise, BitVec.toNat_sub, hlow, BitVec.toNat_ofNat]
    omega

/-- Settles O21, waveform by waveform. -/
theorem waveformValues : Obligations.WaveformValues := by
  intro c d
  refine ⟨fun hwave => ?none, fun hwave => ?sine, fun hwave => ?triangle, fun hwave => ?squareFull,
    fun hwave => ?squareHalf, fun hwave => ?pwm⟩
  all_goals simp only [waveMux, hwave]
  case sine => rw [← phaseTop_toNat, BitVec.ofNat_toNat, BitVec.setWidth_eq]
  case triangle => exact triangleAt_toNat d.acc
  case squareFull => exact square_toNat d.acc 1023#10
  case squareHalf => exact square_toNat d.acc 511#10
  case pwm => rw [phaseTop_toNat, apply_ite BitVec.toNat]; rfl

/-! ### The clock step (R110) -/

theorem ddsAdvance_pwm {d : DdsChannel} (h : d.wave = .pwm) : ddsAdvance d = { d with tacc := d.tacc + d.freq } :=
  if_pos h

theorem ddsAdvance_of_ne_pwm {d : DdsChannel} (h : d.wave ≠ .pwm) : ddsAdvance d = { d with acc := d.acc + d.freq } :=
  if_neg h

/-- Outside the volume path a clock step is the advance. -/
theorem ddsStep_eq (c : Config) (d : DdsChannel) :
    ddsStep c d = { ddsAdvance d with toVolumePath := (ddsStep c d).toVolumePath } := rfl

theorem ddsStep_pwm (c : Config) {d : DdsChannel} (h : d.wave = .pwm) :
    ddsStep c d = { d with toVolumePath := (ddsStep c d).toVolumePath, tacc := d.tacc + d.freq } := by
  rw [ddsStep_eq, ddsAdvance_pwm h]

theorem ddsStep_of_ne_pwm (c : Config) {d : DdsChannel} (h : d.wave ≠ .pwm) :
    ddsStep c d = { d with toVolumePath := (ddsStep c d).toVolumePath, acc := d.acc + d.freq } := by
  rw [ddsStep_eq, ddsAdvance_of_ne_pwm h]

/-- A clock step leaves the increment, the waveform type and the pulse width. -/
theorem ddsStep_settings (c : Config) (d : DdsChannel) :
    (ddsStep c d).freq = d.freq ∧ (ddsStep c d).wave = d.wave ∧ (ddsStep c d).pw = d.pw := by
  by_cases h : d.wave = .pwm
  · rw [ddsStep_pwm c h]; exact ⟨rfl, rfl, rfl⟩
  · rw [ddsStep_of_ne_pwm c h]; exact ⟨rfl, rfl, rfl⟩

/-- The volume path after a clock step: the gate on the waveform value at the advanced phase. -/
theorem ddsStep_path (c : Config) (d : DdsChannel) :
    (ddsStep c d).toVolumePath = zcUpdate c { d.toVolumePath with w := waveMux c (ddsStep c d) } := by
  rw [← ddsAdvance_path d]; rfl

theorem ddsStep_w (c : Config) (d : DdsChannel) : (ddsStep c d).w = waveMux c (ddsStep c d) := by
  rw [ddsStep_path, zcUpdate_w]

/-- Settles O22. -/
theorem ddsStepAdvancesOneAccumulator : Obligations.DdsStepAdvancesOneAccumulator := by
  intro c d
  obtain ⟨hfreq, hwave, hpw⟩ := ddsStep_settings c d
  refine ⟨fun h => ?_, fun h => ?_, ddsStep_path c d, hfreq, hwave, hpw, fun s i => ?_⟩
  · rw [ddsStep_pwm c h]; exact ⟨BitVec.toNat_add .., rfl⟩
  · rw [ddsStep_of_ne_pwm c h]; exact ⟨BitVec.toNat_add .., rfl⟩
  · rw [internalStep_dds, applyPhaseReset_dds]

/-- Settles O32: the step starts from both accumulators at 0. -/
theorem resetComesBeforeAdvance : Obligations.ResetComesBeforeAdvance := by
  intro s i hpulse
  rw [internalStep_dds, if_pos hpulse]
  refine ⟨fun h => ?_, fun h => ?_, ddsStep_w _ _⟩
  · rw [ddsStep_pwm _ (d := ddsPhaseReset s.dds[i]) h]; exact ⟨BitVec.zero_add _, rfl⟩
  · rw [ddsStep_of_ne_pwm _ (d := ddsPhaseReset s.dds[i]) h]; exact ⟨BitVec.zero_add _, rfl⟩

/-! ### The period of the accumulator in use (R119) -/

theorem activeAccumulator_ddsStep (c : Config) (d : DdsChannel) :
    activeAccumulator (ddsStep c d) = activeAccumulator d + d.freq := by
  by_cases h : d.wave = .pwm
  · rw [ddsStep_pwm c h]; simp only [activeAccumulator, if_pos h]
  · rw [ddsStep_of_ne_pwm c h]; simp only [activeAccumulator, if_neg h]

/-- `m` steps add the increment `m` times, modulo 2^28. -/
theorem activeAccumulator_iterate (c : Config) (m : Nat) (d : DdsChannel) :
    (activeAccumulator ((ddsStep c)^[m] d)).toNat = ((activeAccumulator d).toNat + m * d.freq.toNat) % 2 ^ 28 := by
  induction m generalizing d with
  | zero => rw [Function.iterate_zero_apply, Nat.zero_mul, Nat.add_zero, Nat.mod_eq_of_lt (BitVec.isLt _)]
  | succ m ih =>
    have hfreq : (ddsStep c d).freq = d.freq := (ddsStep_settings c d).1
    rw [Function.iterate_succ_apply, ih, activeAccumulator_ddsStep, hfreq, BitVec.toNat_add, Nat.mod_add_mod]
    congr 1
    ring

theorem dvd_mul_iff_div_gcd_dvd {n : Nat} (hn : 0 < n) (f m : Nat) : n ∣ m * f ↔ n / Nat.gcd f n ∣ m := by
  rw [Nat.div_dvd_iff_dvd_mul (Nat.gcd_dvd_right f n) (Nat.gcd_pos_of_pos_right f hn), Nat.gcd_comm,
    Nat.dvd_gcd_mul_iff_dvd_mul, Nat.mul_comm]

/-- The accumulator in use is back where it was after exactly the multiples of the period. -/
theorem activeAccumulator_iterate_eq_iff (c : Config) (m : Nat) (d : DdsChannel) :
    activeAccumulator ((ddsStep c)^[m] d) = activeAccumulator d ↔ 2 ^ 28 / Nat.gcd d.freq.toNat (2 ^ 28) ∣ m := by
  rw [← dvd_mul_iff_div_gcd_dvd (Nat.two_pow_pos 28), ← BitVec.toNat_inj, activeAccumulator_iterate]
  have hlt := (activeAccumulator d).isLt
  omega

/-- Settles O23: the period divides itself, and no smaller positive number. -/
theorem accumulatorPeriod : Obligations.AccumulatorPeriod := by
  intro c d
  refine ⟨(activeAccumulator_iterate_eq_iff c _ d).mpr (Nat.dvd_refl _), fun m hpos hlt hback => ?_⟩
  exact Nat.not_dvd_of_pos_of_lt hpos hlt ((activeAccumulator_iterate_eq_iff c m d).mp hback)

end Sys2Proof.Machine
end

section
/-! The noise channel: the five commands (R140 to R144), the clock step (R150), how often it shifts (R154), the seeded
register over a run of the machine (R155), and the period of the shift register (R151). -/

namespace Sys2Proof.Machine

/-! ### Commands (R140 to R144) -/

/-- Settles O10, by the clock mode. -/
theorem nzFreqSetsIncrementOrIsLost : Obligations.NzFreqSetsIncrementOrIsLost := by
  intro v s
  cases hclk : s.nz.intclk with
  | true =>
    have hexec : exec (.nzFreq v) s = .next s := congrArg Host.Outcome.next (if_pos hclk)
    exact ⟨rfl, s, hexec, rfl, nofun, fun _ => rfl⟩
  | false =>
    have hexec : exec (.nzFreq v) s = .next (s.modifyNz fun n => { n with freq := v }) :=
      congrArg Host.Outcome.next (if_neg (Bool.eq_false_iff.mp hclk))
    exact ⟨rfl, _, hexec, s.modifyNz_only _, fun _ => rfl, nofun⟩

/-- Settles O11. -/
theorem nzClkSelectsClock : Obligations.NzClkSelectsClock := by
  intro v s
  refine ⟨rfl, _, rfl, s.modifyNz_only _, ?_⟩
  rw [State.modifyNz_nz, bitField_eq]

/-- The seed of NZ.SEED in exact arithmetic (R142). -/
theorem seedField_toNat (v : Value) :
    (seedField v).toNat = if v.toNat % 2 ^ 23 = 0 then 1 else v.toNat % 2 ^ 23 := by
  have hfield : (v.extractLsb' 0 23).toNat = v.toNat % 2 ^ 23 := by
    rw [BitVec.extractLsb'_toNat, Nat.shiftRight_zero]
  have hzero : v.extractLsb' 0 23 = 0#23 ↔ v.toNat % 2 ^ 23 = 0 := by
    rw [← BitVec.toNat_inj, hfield, BitVec.toNat_ofNat, Nat.zero_mod]
  simp only [seedField, hzero, apply_ite BitVec.toNat, hfield]
  rfl

/-- Settles O12. -/
theorem nzSeedSetsRegisterAndReload : Obligations.NzSeedSetsRegisterAndReload :=
  fun v s => ⟨rfl, _, rfl, s.modifyNz_only _, rfl, seedField_toNat v⟩

/-- Settles O13. -/
theorem nzVolSetsOrDefers : Obligations.NzVolSetsOrDefers := by
  intro v s
  refine ⟨rfl, _, rfl, s.modifyNz_only _, fun hzcen => ?_, fun hzcen => ?_⟩
  · rw [State.modifyNz_nz, NoiseChannel.modifyPath, writeVolume_immediate _ _ hzcen, volField_eq]
  · rw [State.modifyNz_nz, NoiseChannel.modifyPath, writeVolume_deferred _ _ hzcen, volField_eq]

/-- Settles O14. -/
theorem nzZcenSwitchesDeferral : Obligations.NzZcenSwitchesDeferral := by
  intro v s
  refine ⟨rfl, _, rfl, s.modifyNz_only _, fun hodd => ?_, fun heven hnone => ?_, fun heven hpending => ?_⟩
  · rw [State.modifyNz_nz, NoiseChannel.modifyPath, bitField_of_odd hodd, writeDeferral_on]
  · rw [State.modifyNz_nz, NoiseChannel.modifyPath, bitField_of_even heven, writeDeferral_off_nothing _ hnone]
  · rw [State.modifyNz_nz, NoiseChannel.modifyPath, bitField_of_even heven, writeDeferral_off_pending _ hpending]

/-! ### The shift and the level in exact arithmetic (R150, R152) -/

theorem lfsrFeedback_toNat (l : Lfsr) :
    (lfsrFeedback l).toNat = (l.toNat / 2 ^ 22 + l.toNat / 2 ^ 17) % 2 := by
  have hbit : ∀ i, l.getLsbD i = decide (l.toNat / 2 ^ i % 2 = 1) := fun i => Nat.testBit_eq_decide_div_mod_eq
  rw [lfsrFeedback, hbit, hbit, Nat.add_mod]
  obtain h22 | h22 := Nat.mod_two_eq_zero_or_one (l.toNat / 2 ^ 22) <;>
    obtain h17 | h17 := Nat.mod_two_eq_zero_or_one (l.toNat / 2 ^ 17) <;>
      rw [h22, h17] <;> rfl

/-- A shift doubles the register modulo 2^23 and adds the feedback (R150). -/
theorem lfsrShift_toNat (l : Lfsr) :
    (lfsrShift l).toNat = (2 * l.toNat + (l.toNat / 2 ^ 22 + l.toNat / 2 ^ 17) % 2) % 2 ^ 23 := by
  have hdouble : (l <<< 1).toNat = (l.toNat % 2 ^ 22) <<< 1 := by
    rw [BitVec.toNat_shiftLeft, Nat.shiftLeft_eq, Nat.shiftLeft_eq]; omega
  have hfb : (BitVec.setWidth 23 (BitVec.ofBool (lfsrFeedback l))).toNat = (lfsrFeedback l).toNat := by
    cases lfsrFeedback l <;> rfl
  have hlt : (lfsrFeedback l).toNat < 2 ^ 1 := Bool.toNat_lt _
  rw [lfsrShift, BitVec.toNat_or, hdouble, hfb, ← Nat.shiftLeft_add_eq_or_of_lt hlt, Nat.shiftLeft_eq,
    lfsrFeedback_toNat]
  omega

theorem lfsrLevel_toNat (l : Lfsr) : (lfsrLevel l).toNat = if l.toNat % 2 = 1 then 1023 else 0 := by
  rw [lfsrLevel, BitVec.getLsbD, Nat.testBit_zero, apply_ite BitVec.toNat]
  simp

/-! ### The clock step (R150) -/

/-- Below the overflow the timer advances alone. -/
theorem noiseAdvance_hold {c : Config} {n : NoiseChannel}
    (h : n.acc.toNat + (noiseIncrement c n).toNat < 2 ^ 32) :
    noiseAdvance c n = { n with acc := n.acc + noiseIncrement c n } := by
  have hcarry : timerCarry n.acc (noiseIncrement c n) = false := decide_eq_false (Nat.not_le_of_lt h)
  simp [noiseAdvance, hcarry]

/-- On overflow the register shifts, with its level as the waveform value. -/
theorem noiseAdvance_shift {c : Config} {n : NoiseChannel}
    (h : 2 ^ 32 ≤ n.acc.toNat + (noiseIncrement c n).toNat) :
    noiseAdvance c n = { n with acc := n.acc + noiseIncrement c n, lfsr := lfsrShift n.lfsr,
                                w := lfsrLevel (lfsrShift n.lfsr) } := by
  have hcarry : timerCarry n.acc (noiseIncrement c n) = true := decide_eq_true h
  simp [noiseAdvance, hcarry]

/-- Outside the volume path a clock step is the timer and shift. -/
theorem noiseStep_eq (c : Config) (n : NoiseChannel) :
    noiseStep c n = { noiseAdvance c n with toVolumePath := zcUpdate c (noiseAdvance c n).toVolumePath } := rfl

theorem noiseStep_acc (c : Config) (n : NoiseChannel) : (noiseStep c n).acc = n.acc + noiseIncrement c n := by
  rw [noiseStep_eq]
  obtain hadvance | hshift := noiseAdvance_cases c n
  · rw [hadvance]
  · rw [hshift]

/-- The clock step leaves the reload value, the external increment and the clock mode. -/
theorem noiseStep_settings (c : Config) (n : NoiseChannel) :
    (noiseStep c n).reload = n.reload ∧ (noiseStep c n).freq = n.freq ∧ (noiseStep c n).intclk = n.intclk := by
  rw [noiseStep_eq]
  obtain hadvance | hshift := noiseAdvance_cases c n
  · rw [hadvance]; exact ⟨rfl, rfl, rfl⟩
  · rw [hshift]; exact ⟨rfl, rfl, rfl⟩

theorem noiseStep_w (c : Config) (n : NoiseChannel) : (noiseStep c n).w = (noiseAdvance c n).w :=
  zcUpdate_w c (noiseAdvance c n).toVolumePath

/-- The volume path after a clock step: the gate on the level just computed, or on the one held (R150, R234). -/
theorem noiseStep_path (c : Config) (n : NoiseChannel) :
    (noiseStep c n).toVolumePath = zcUpdate c { n.toVolumePath with w := (noiseStep c n).w } := by
  have hpath : (noiseAdvance c n).toVolumePath = { n.toVolumePath with w := (noiseAdvance c n).w } := by
    obtain hadvance | hshift := noiseAdvance_cases c n
    · rw [hadvance]
    · rw [hshift]
  rw [noiseStep_w, ← hpath, noiseStep_eq]

theorem noiseStep_hold {c : Config} {n : NoiseChannel} (h : n.acc.toNat + (noiseIncrement c n).toNat < 2 ^ 32) :
    (noiseStep c n).lfsr = n.lfsr ∧ (noiseStep c n).w = n.w := by
  rw [noiseStep_w, noiseStep_eq, noiseAdvance_hold h]
  exact ⟨rfl, rfl⟩

theorem noiseStep_shift {c : Config} {n : NoiseChannel} (h : 2 ^ 32 ≤ n.acc.toNat + (noiseIncrement c n).toNat) :
    (noiseStep c n).lfsr = lfsrShift n.lfsr ∧ (noiseStep c n).w = lfsrLevel (lfsrShift n.lfsr) := by
  rw [noiseStep_w, noiseStep_eq, noiseAdvance_shift h]
  exact ⟨rfl, rfl⟩

theorem noiseIncrement_toNat (c : Config) (n : NoiseChannel) :
    (noiseIncrement c n).toNat = if n.intclk = true then c.noiseIntInc.toNat else n.freq.toNat :=
  apply_ite BitVec.toNat _ _ _

/-- Settles O25, by whether the timer overflows. -/
theorem noiseStepShiftsOnOverflow : Obligations.NoiseStepShiftsOnOverflow := by
  intro c n inc hinc
  rw [← noiseIncrement_toNat] at hinc
  subst hinc
  obtain ⟨hreload, hfreq, hclk⟩ := noiseStep_settings c n
  refine ⟨?_, fun hover => ?_, noiseStep_hold, noiseStep_path c n, hreload, hfreq, hclk, fun s => ?_⟩
  · rw [noiseStep_acc, BitVec.toNat_add]
  · obtain ⟨hlfsr, hw⟩ := noiseStep_shift hover
    rw [hw, hlfsr]
    exact ⟨lfsrShift_toNat n.lfsr, lfsrLevel_toNat _⟩
  · rw [internalStep_nz, applyPhaseReset_nz]

/-! ### How often the register shifts (R154) -/

theorem noiseStep_increment (c : Config) (n : NoiseChannel) :
    noiseIncrement c (noiseStep c n) = noiseIncrement c n := by
  obtain ⟨_, hfreq, hclk⟩ := noiseStep_settings c n
  rw [noiseIncrement, noiseIncrement, hfreq, hclk]

/-- One step shifts as often as the sum contains 2^32, once or not at all. -/
theorem noiseStep_lfsr (c : Config) (z : NoiseChannel) :
    (noiseStep c z).lfsr = lfsrShift^[(z.acc.toNat + (noiseIncrement c z).toNat) / 2 ^ 32] z.lfsr := by
  have hacc := z.acc.isLt
  have hinc := (noiseIncrement c z).isLt
  obtain hhold | hover := Nat.lt_or_ge (z.acc.toNat + (noiseIncrement c z).toNat) (2 ^ 32)
  · rw [Nat.div_eq_of_lt hhold, Function.iterate_zero_apply, (noiseStep_hold hhold).1]
  · have hone : (z.acc.toNat + (noiseIncrement c z).toNat) / 2 ^ 32 = 1 := by omega
    rw [hone, Function.iterate_one, (noiseStep_shift hover).1]

theorem noiseStep_iterate_lfsr (c : Config) (n : Nat) (z : NoiseChannel) :
    ((noiseStep c)^[n] z).lfsr =
      lfsrShift^[(z.acc.toNat + n * (noiseIncrement c z).toNat) / 2 ^ 32] z.lfsr := by
  induction n generalizing z with
  | zero =>
    have hnone : (z.acc.toNat + 0 * (noiseIncrement c z).toNat) / 2 ^ 32 = 0 := by
      rw [Nat.zero_mul, Nat.add_zero, Nat.div_eq_of_lt z.acc.isLt]
    rw [hnone, Function.iterate_zero_apply, Function.iterate_zero_apply]
  | succ n ih =>
    have hsplit : z.acc.toNat + (n + 1) * (noiseIncrement c z).toNat =
        z.acc.toNat + (noiseIncrement c z).toNat + n * (noiseIncrement c z).toNat := by ring
    rw [Function.iterate_succ_apply, ih, noiseStep_increment, noiseStep_acc, noiseStep_lfsr,
      ← Function.iterate_add_apply, BitVec.toNat_add, hsplit]
    congr 1
    omega

/-- Settles O26; `m` steps with `inc = 2^32 / m` add 2^32 to the timer. -/
theorem noiseShiftCount : Obligations.NoiseShiftCount := by
  intro c z n
  refine ⟨noiseStep_iterate_lfsr c n z, fun m k hinc hn => ?_⟩
  have hsum : n * (noiseIncrement c z).toNat = k * 2 ^ 32 := by rw [hn, ← hinc]; ring
  have hacc := z.acc.isLt
  have hcount : (z.acc.toNat + k * 2 ^ 32) / 2 ^ 32 = k := by omega
  rw [noiseStep_iterate_lfsr, hsum, hcount]

/-! ### The seeded register over a run (R155) -/

/-- What every step of a machine keeps is kept by its runs. -/
theorem run_keeps {M : Host.Core} {P : M.State → Prop} (hstep : ∀ {s t}, M.step s = .next t → P s → P t) (k : Nat)
    {s u : M.State} (h : M.run k s = .next u) (hs : P s) : P u := by
  induction k generalizing s with
  | zero => cases h; exact hs
  | succ k ih =>
    rw [Host.Core.run] at h
    cases hst : M.step s with
    | next t => rw [hst] at h; exact ih h (hstep hst hs)
    | fault r | refused r => rw [hst] at h; cases h

/-- Settles O28: NZ.SEED seeds register and reload value, which every step then keeps nonzero. -/
theorem seededNoiseNeverSettles : Obligations.SeededNoiseNeverSettles := by
  intro v s
  have hcoerced : seedField 0#32 = seedField 1#32 := by decide
  refine ⟨?_, _, rfl, fun k u hrun => ?_⟩
  · simp only [exec, execNzSeed, hcoerced]
  · have hseeded : NoiseSeeded u.nz :=
      run_keeps (M := Sys2Proof.core) (P := fun t => NoiseSeeded t.nz) step_noiseSeeded k hrun
        ⟨seedField_ne_zero v, seedField_ne_zero v⟩
    exact hseeded.lfsr

/-! ### Registers as a field: products and powers (R151)

The shift is multiplication by `x` in GF(2)[x] / (x^23 + x^5 + 1), whose element with value `v` is the polynomial in the
shift that takes 1 to `v`. So the product of registers gives every number of shifts by repeated squaring. -/

/-- Functions that respect XOR and the shift; they are the multiplications of the field. -/
structure ShiftLinear (A : Lfsr → Lfsr) : Prop where
  xor : ∀ a b, A (a ^^^ b) = A a ^^^ A b
  shift : ∀ a, A (lfsrShift a) = lfsrShift (A a)

/-- The product of `l` and the register that holds bit `n` alone: bit `n + 1` alone is the shift of bit `n` alone without
the feedback, which is 1 for bit 17. -/
def lfsrMulBit : Nat → Lfsr → Lfsr
  | 0, l => l
  | n + 1, l => lfsrShift (lfsrMulBit n l) ^^^ if n = 17 then l else 0#23

/-- The product of the lowest bits of `v`, given by number, and `l`. -/
def lfsrMulLow (v l : Lfsr) : Nat → Lfsr
  | 0 => 0#23
  | n + 1 => lfsrMulLow v l n ^^^ if v.getLsbD n then lfsrMulBit n l else 0#23

/-- The product of two registers. -/
def lfsrMul (v l : Lfsr) : Lfsr := lfsrMulLow v l 23

/-- The register 1 after `n` shifts, for an `n` of at most `k` bits, by squaring the register of half as many. -/
def lfsrPower : Nat → Nat → Lfsr
  | 0, _ => 1#23
  | k + 1, n =>
    let square := lfsrMul (lfsrPower k (n / 2)) (lfsrPower k (n / 2))
    if n % 2 = 1 then lfsrShift square else square

theorem lfsrShift_xor (a b : Lfsr) : lfsrShift (a ^^^ b) = lfsrShift a ^^^ lfsrShift b := by
  refine BitVec.eq_of_getLsbD_eq fun i hi => ?_
  cases i with
  | zero =>
    simp only [BitVec.getLsbD_xor, lfsrShift_getLsbD_zero, lfsrFeedback, Bool.xor_assoc, Bool.xor_left_comm]
  | succ i => simp only [BitVec.getLsbD_xor, lfsrShift_getLsbD_succ _ i hi]

theorem shiftLinear_lfsrShift : ShiftLinear lfsrShift := ⟨lfsrShift_xor, fun _ => rfl⟩

theorem shiftLinear_iterate (n : Nat) : ShiftLinear lfsrShift^[n] := by
  induction n with
  | zero => exact ⟨fun _ _ => rfl, fun _ => rfl⟩
  | succ n ih =>
    exact ⟨fun a b => by simp only [Function.iterate_succ_apply, lfsrShift_xor, ih.xor], fun a => ih.shift _⟩

section
variable {A : Lfsr → Lfsr} (hA : ShiftLinear A)
include hA

theorem ShiftLinear.zero : A 0#23 = 0#23 := by
  have h : A (0#23 ^^^ 0#23) = A 0#23 ^^^ A 0#23 := hA.xor _ _
  rwa [BitVec.xor_self, BitVec.xor_self] at h

theorem ShiftLinear.gated (P : Prop) [Decidable P] (l : Lfsr) :
    A (if P then l else 0#23) = if P then A l else 0#23 := by
  rw [apply_ite A, hA.zero]

theorem ShiftLinear.mulBit (n : Nat) (l : Lfsr) : A (lfsrMulBit n l) = lfsrMulBit n (A l) := by
  induction n with
  | zero => rfl
  | succ n ih => rw [lfsrMulBit, hA.xor, hA.shift, hA.gated, ih, lfsrMulBit]

theorem ShiftLinear.mulLow (v l : Lfsr) (n : Nat) : A (lfsrMulLow v l n) = lfsrMulLow v (A l) n := by
  induction n with
  | zero => exact hA.zero
  | succ n ih => rw [lfsrMulLow, hA.xor, hA.gated, hA.mulBit, ih, lfsrMulLow]

theorem ShiftLinear.mul (v l : Lfsr) : A (lfsrMul v l) = lfsrMul v (A l) := hA.mulLow v l 23

end

theorem gated_xor (P : Prop) [Decidable P] (a b : Lfsr) :
    (if P then a ^^^ b else 0#23) = (if P then a else 0#23) ^^^ if P then b else 0#23 := by
  split
  · rfl
  · rw [BitVec.xor_self]

theorem lfsrMulBit_xor (n : Nat) (a b : Lfsr) : lfsrMulBit n (a ^^^ b) = lfsrMulBit n a ^^^ lfsrMulBit n b := by
  induction n with
  | zero => rfl
  | succ n ih => simp only [lfsrMulBit, ih, lfsrShift_xor, gated_xor]; ac_rfl

theorem lfsrMulLow_xor (v a b : Lfsr) (n : Nat) :
    lfsrMulLow v (a ^^^ b) n = lfsrMulLow v a n ^^^ lfsrMulLow v b n := by
  induction n with
  | zero => rw [lfsrMulLow, lfsrMulLow, lfsrMulLow, BitVec.xor_self]
  | succ n ih => simp only [lfsrMulLow, ih, lfsrMulBit_xor, gated_xor]; ac_rfl

theorem shiftLinear_mul (v : Lfsr) : ShiftLinear (lfsrMul v) :=
  ⟨fun a b => lfsrMulLow_xor v a b 23, fun a => (shiftLinear_lfsrShift.mul v a).symm⟩

theorem lfsrMulBit_one : ∀ n < 23, lfsrMulBit n 1#23 = BitVec.twoPow 23 n := by decide

/-- Bit `n` of `v` alone. -/
theorem gated_twoPow_getLsbD (v : Lfsr) {n : Nat} (hn : n < 23) (j : Nat) :
    (if v.getLsbD n then BitVec.twoPow 23 n else 0#23).getLsbD j = (decide (j = n) && v.getLsbD j) := by
  by_cases hj : j = n
  · subst hj
    cases hv : v.getLsbD j with
    | true => simp [hn]
    | false => simp
  · have hother : (BitVec.twoPow 23 n).getLsbD j = false := by simp [BitVec.getLsbD_twoPow, Ne.symm hj]
    split
    · simp [hother, hj]
    · simp [hj]

/-- The lowest bits of `v` times 1 are these bits. -/
theorem lfsrMulLow_one_getLsbD (v : Lfsr) (n j : Nat) (hn : n ≤ 23) :
    (lfsrMulLow v 1#23 n).getLsbD j = (decide (j < n) && v.getLsbD j) := by
  induction n with
  | zero => simp [lfsrMulLow]
  | succ n ih =>
    rw [lfsrMulLow, BitVec.getLsbD_xor, ih (by omega), lfsrMulBit_one n (by omega), gated_twoPow_getLsbD v hn]
    obtain hlt | rfl | hgt := Nat.lt_trichotomy j n
    · simp [hlt, hlt.ne, Nat.lt_succ_of_lt hlt]
    · simp
    · simp [hgt.ne', Nat.not_lt.mpr hgt.le, Nat.not_lt.mpr (Nat.succ_le_of_lt hgt)]

/-- 1 is the unit of the product. -/
theorem lfsrMul_one (v : Lfsr) : lfsrMul v 1#23 = v := by
  refine BitVec.eq_of_getLsbD_eq fun j hj => ?_
  rw [lfsrMul, lfsrMulLow_one_getLsbD v 23 j (Nat.le_refl _), decide_eq_true hj, Bool.true_and]

/-- `n` shifts of any register are a product with what `n` shifts make of 1. -/
theorem lfsrShift_iterate (n : Nat) (l : Lfsr) : lfsrShift^[n] l = lfsrMul l (lfsrShift^[n] 1#23) := by
  rw [← (shiftLinear_iterate n).mul, lfsrMul_one]

theorem lfsrPower_eq (k n : Nat) (hn : n < 2 ^ k) : lfsrPower k n = lfsrShift^[n] 1#23 := by
  induction k generalizing n with
  | zero => rw [Nat.lt_one_iff.mp hn]; rfl
  | succ k ih =>
    have hsquare : lfsrMul (lfsrPower k (n / 2)) (lfsrPower k (n / 2)) = lfsrShift^[n / 2 + n / 2] 1#23 := by
      rw [ih (n / 2) (by omega), ← lfsrShift_iterate, ← Function.iterate_add_apply]
    rw [lfsrPower, hsquare]
    split
    next hodd => rw [← Function.iterate_succ_apply' lfsrShift]; congr 1; omega
    next heven => congr 1; omega

/-! ### The period of the shift register (R151) -/

/-- Where `x^n + 1` has an inverse `u` in the field, `n` shifts fix 0 alone. -/
theorem eq_zero_of_iterate_eq {k n : Nat} {u l : Lfsr} (hn : n < 2 ^ k)
    (hu : lfsrMul u (lfsrPower k n ^^^ 1#23) = 1#23) (hfix : lfsrShift^[n] l = l) : l = 0#23 := by
  have hroot : lfsrMul l (lfsrPower k n ^^^ 1#23) = 0#23 := by
    rw [(shiftLinear_mul l).xor, lfsrPower_eq k n hn, ← lfsrShift_iterate, hfix, lfsrMul_one, BitVec.xor_self]
  calc l = lfsrMul l 1#23 := (lfsrMul_one l).symm
    _ = lfsrMul l (lfsrMul u (lfsrPower k n ^^^ 1#23)) := by rw [hu]
    _ = lfsrMul u (lfsrMul l (lfsrPower k n ^^^ 1#23)) := (shiftLinear_mul l).mul u _
    _ = 0#23 := by rw [hroot, (shiftLinear_mul u).zero]

/-- `x^(2^23 - 1) = 1`. -/
theorem lfsrPower_period : lfsrPower 23 (2 ^ 23 - 1) = 1#23 := by decide +kernel

/-- The inverse of `x^47 + 1`. -/
theorem lfsrMul_inverse_47 : lfsrMul 0x1b8591#23 (lfsrPower 6 47 ^^^ 1#23) = 1#23 := by decide +kernel

/-- The inverse of `x^178481 + 1`. -/
theorem lfsrMul_inverse_178481 : lfsrMul 0x19123e#23 (lfsrPower 18 178481 ^^^ 1#23) = 1#23 := by decide +kernel

theorem lfsrShift_iterate_period (l : Lfsr) : lfsrShift^[2 ^ 23 - 1] l = l := by
  rw [lfsrShift_iterate, ← lfsrPower_eq 23 _ (by omega), lfsrPower_period, lfsrMul_one]

/-- A proper divisor of a product of two primes divides one of them. -/
theorem dvd_or_dvd_of_dvd_mul_primes {p q g : Nat} (hp : p.Prime) (hq : q.Prime) (hg : g ∣ p * q) (hne : g ≠ p * q) :
    g ∣ p ∨ g ∣ q := by
  obtain ⟨a, b, ha, hb, rfl⟩ := Nat.dvd_mul.mp hg
  obtain rfl | rfl := (Nat.dvd_prime hp).mp ha
  · exact .inr (by rwa [Nat.one_mul])
  · obtain rfl | rfl := (Nat.dvd_prime hq).mp hb
    · exact .inl (by rw [Nat.mul_one])
    · exact absurd rfl hne

/-- Settles O27: a smaller period would be one of 47 or 178481 shifts, the prime factors of 2^23 - 1. -/
theorem noiseSequenceIsMaximal : Obligations.NoiseSequenceIsMaximal := by
  intro l hl
  refine ⟨lfsrShift_iterate_period l, fun n hpos hlt hfix => hl ?_⟩
  have hgcd : Function.IsPeriodicPt lfsrShift (n.gcd (2 ^ 23 - 1)) l :=
    Function.IsPeriodicPt.gcd hfix (lfsrShift_iterate_period l)
  have hle : n.gcd (2 ^ 23 - 1) ≤ n := Nat.gcd_le_left _ hpos
  have hdvd : n.gcd (2 ^ 23 - 1) ∣ 47 * 178481 := Nat.gcd_dvd_right n (2 ^ 23 - 1)
  obtain h | h := dvd_or_dvd_of_dvd_mul_primes (by norm_num) (by norm_num) hdvd (by omega)
  · exact eq_zero_of_iterate_eq (by norm_num) lfsrMul_inverse_47 (hgcd.trans_dvd h)
  · exact eq_zero_of_iterate_eq (by norm_num) lfsrMul_inverse_178481 (hgcd.trans_dvd h)

end Sys2Proof.Machine
end

section
/-! The phase-reset timers: the three commands (R170 to R172), the advance and the pulse set (R175, R178), when a timer fires
(R179), and what the phase reset does to the channels (R176, R177). -/

namespace Sys2Proof.Machine

/-! ### Commands (R170 to R172) -/

/-- The address of a command to a timer, `(8 + t) << 4 | cmd` (R81). -/
theorem timerAddr_toNat (t : Fin 8) (cmd : CmdType) :
    (addrMake (BitVec.ofNat 4 (8 + t.val)) cmd).toNat = (8 + t.val) * 16 + cmd.toNat := by
  rw [addrMake_toNat, timerIndex_toNat]

theorem maskField_eq (v : Value) : maskField v = BitVec.ofNat 8 v.toNat :=
  BitVec.eq_of_toNat_eq (maskField_toNat v)

theorem hasPrt_iff (c : Config) (t : Nat) : c.hasPrt t = true ↔ t < c.numPrt.num := decide_eq_true_iff

/-- A command to a timer that exists writes it. -/
theorem State.modifyPrt_get_present {s : State} {t : Fin 8} {j : Fin 5} (hj : j.val = t.val)
    (ht : t.val < s.cfg.numPrt.num) (f : PhaseTimer → PhaseTimer) : (s.modifyPrt t f).prt[j] = f s.prt[j] := by
  rw [State.modifyPrt_get, if_pos ⟨(hasPrt_iff _ _).mpr ht, hj⟩]

/-- Settles O16. -/
theorem prtFreqSetsIncrement : Obligations.PrtFreqSetsIncrement := by
  intro t v s
  exact ⟨timerAddr_toNat t 0#4, _, rfl, s.modifyPrt_only t _, fun j hj ht => State.modifyPrt_get_present hj ht _⟩

/-- Settles O17. -/
theorem prtMaskAndEnSetTheirField : Obligations.PrtMaskAndEnSetTheirField := by
  intro t v s
  refine ⟨timerAddr_toNat t 1#4, timerAddr_toNat t 2#4, ⟨_, rfl, s.modifyPrt_only t _, fun j hj ht => ?_⟩,
    _, rfl, s.modifyPrt_only t _, fun j hj ht => ?_⟩
  · rw [State.modifyPrt_get_present hj ht, maskField_eq]
  · rw [State.modifyPrt_get_present hj ht, bitField_eq]

/-! ### The advance and the pulse set (R175, R178) -/

theorem timerAdvance_enabled {p : PhaseTimer} (h : p.en = true) : timerAdvance p = { p with acc := p.acc + p.freq } :=
  if_pos h

theorem timerAdvance_disabled {p : PhaseTimer} (h : p.en = false) : timerAdvance p = p :=
  if_neg (Bool.eq_false_iff.mp h)

/-- The advance changes the accumulator only. -/
theorem timerAdvance_frame (p : PhaseTimer) : timerAdvance p = { p with acc := (timerAdvance p).acc } := by
  unfold timerAdvance; split <;> rfl

theorem timerFires_iff (p : PhaseTimer) : timerFires p = true ↔ p.en = true ∧ 2 ^ 32 ≤ p.acc.toNat + p.freq.toNat := by
  rw [timerFires, timerCarry, Bool.and_eq_true, decide_eq_true_iff]

/-- A timer adds its mask to the pulse set when it exists and fires. -/
theorem timerPulse_getLsbD_iff (s : State) (t : Fin 5) (i : Nat) :
    (timerPulse s t).getLsbD i = true ↔
      t.val < s.cfg.numPrt.num ∧ timerFires s.prt[t] = true ∧ s.prt[t].mask.getLsbD i = true := by
  rw [← hasPrt_iff, ← and_assoc, ← Bool.and_eq_true, timerPulse]
  cases s.cfg.hasPrt t.val && timerFires s.prt[t] with
  | true => simp
  | false => simp

/-- The pulses are combined by OR (R178). -/
theorem pulseSet_getLsbD_iff (s : State) (i : Nat) :
    (pulseSet s).getLsbD i = true ↔ ∃ t, (timerPulse s t).getLsbD i = true := by
  simp [pulseSet, Fin.exists_fin_succ, or_assoc]

theorem advanceTimers_get_present {s : State} {t : Fin 5} (h : t.val < s.cfg.numPrt.num) :
    (advanceTimers s).prt[t] = timerAdvance s.prt[t] := by
  rw [advanceTimers, State.mapPrt_get, if_pos ((hasPrt_iff _ _).mpr h)]

theorem advanceTimers_get_absent {s : State} {t : Fin 5} (h : s.cfg.numPrt.num ≤ t.val) :
    (advanceTimers s).prt[t] = s.prt[t] := by
  rw [advanceTimers, State.mapPrt_get, if_neg (Bool.eq_false_iff.mp ((hasPrt_eq_false_iff _ _).mpr h))]

theorem advanceTimers_get_frame (s : State) (t : Fin 5) :
    (advanceTimers s).prt[t] = { s.prt[t] with acc := (advanceTimers s).prt[t].acc } := by
  obtain hpresent | habsent := Nat.lt_or_ge t.val s.cfg.numPrt.num
  · rw [advanceTimers_get_present hpresent]; exact timerAdvance_frame _
  · rw [advanceTimers_get_absent habsent]

/-- A timer that does not exist or is disabled holds. -/
theorem advanceTimers_get_hold {s : State} {t : Fin 5} (h : s.cfg.numPrt.num ≤ t.val ∨ s.prt[t].en = false) :
    (advanceTimers s).prt[t] = s.prt[t] := by
  obtain hpresent | habsent := Nat.lt_or_ge t.val s.cfg.numPrt.num
  · have hoff : s.prt[t].en = false := h.resolve_left (Nat.not_le_of_lt hpresent)
    rw [advanceTimers_get_present hpresent, timerAdvance_disabled hoff]
  · exact advanceTimers_get_absent habsent

/-- Settles O29. -/
theorem timersAdvanceAndFire : Obligations.TimersAdvanceAndFire := by
  intro s
  refine ⟨fun ch => ?_, rfl, internalStep_prt s, fun t =>
    ⟨advanceTimers_get_frame s t, fun hpresent hen => ?_, advanceTimers_get_hold⟩⟩
  · simp only [pulseSet_getLsbD_iff, timerPulse_getLsbD_iff, timerFires_iff, and_assoc]
  · rw [advanceTimers_get_present hpresent, timerAdvance_enabled hen]
    exact BitVec.toNat_add ..

/-! ### When a timer fires (R179) -/

/-- `n` internal steps add the increment `n` times, modulo 2^32. -/
theorem timerAdvance_iterate {p : PhaseTimer} (hen : p.en = true) (n : Nat) :
    timerAdvance^[n] p = { p with acc := BitVec.ofNat 32 (p.acc.toNat + n * p.freq.toNat) } := by
  induction n with
  | zero => rw [Nat.zero_mul, Nat.add_zero, BitVec.ofNat_toNat, BitVec.setWidth_eq]; rfl
  | succ n ih =>
    have hsum : BitVec.ofNat 32 (p.acc.toNat + (n + 1) * p.freq.toNat) =
        BitVec.ofNat 32 (p.acc.toNat + n * p.freq.toNat) + p.freq := by
      rw [Nat.succ_mul, ← Nat.add_assoc, BitVec.ofNat_add, BitVec.ofNat_toNat 32 p.freq, BitVec.setWidth_eq]
    rw [Function.iterate_succ_apply', ih, hsum]
    exact timerAdvance_enabled hen

/-- Adding less than 2^32 raises the quotient by 2^32 exactly when the remainder overflows. -/
theorem div_lt_add_div_iff {f : Nat} (hf : f < 2 ^ 32) (a : Nat) :
    a / 2 ^ 32 < (a + f) / 2 ^ 32 ↔ 2 ^ 32 ≤ a % 2 ^ 32 + f := by
  omega

theorem timerFires_iterate_iff {p : PhaseTimer} (hen : p.en = true) (n : Nat) :
    timerFires (timerAdvance^[n] p) = true ↔
      (p.acc.toNat + n * p.freq.toNat) / 2 ^ 32 < (p.acc.toNat + (n + 1) * p.freq.toNat) / 2 ^ 32 := by
  rw [Nat.succ_mul, ← Nat.add_assoc, div_lt_add_div_iff p.freq.isLt, timerAdvance_iterate hen, timerFires_iff,
    BitVec.toNat_ofNat]
  exact and_iff_right hen

/-- The quotient by `m` grows from `n` to `n + 1` exactly at a multiple of `m`. -/
theorem div_lt_succ_div_iff (n m : Nat) : n / m < (n + 1) / m ↔ m ∣ n + 1 := by
  rw [Nat.succ_div]
  split
  next h => exact iff_of_true (Nat.lt_succ_self _) h
  next h => exact iff_of_false (Nat.lt_irrefl _) h

/-- Settles O30; with `2^32 = f * m` the sum `n * f` contains 2^32 as often as `n` contains `m`. -/
theorem timerFiringPeriod : Obligations.TimerFiringPeriod := by
  intro p n hen
  refine ⟨timerFires_iterate_iff hen n, fun hacc m hfm => ?_⟩
  have hf : 0 < p.freq.toNat := Nat.pos_of_mul_pos_right (hfm ▸ Nat.two_pow_pos 32)
  have hquot : ∀ k, (p.acc.toNat + k * p.freq.toNat) / 2 ^ 32 = k / m := fun k => by
    rw [hacc, BitVec.toNat_ofNat, Nat.zero_mod, Nat.zero_add, ← hfm, Nat.mul_comm k, Nat.mul_div_mul_left _ _ hf]
  rw [timerFires_iterate_iff hen, hquot, hquot, div_lt_succ_div_iff]

/-! ### The phase reset and the DAC port (R176, R177, R205) -/

/-- The phase reset of pulse set `P` selects DAC channel `k`, and the channel exists (R176). -/
def dacSelected (c : Config) (P : Mask) (k : Fin 3) : Bool := c.hasDac k && P.getLsbD (5 + k.val)

/-- A strobe records its call if its channel is selected. -/
theorem dacStrobe_dacCalls (P : Mask) (s : State) (k : Fin 3) :
    (dacStrobe P s k).dacCalls = ([k].filter (dacSelected s.cfg P)).map DacCall.phaseReset ++ s.dacCalls := by
  rw [dacStrobe, ← dacSelected, List.filter_singleton]
  cases dacSelected s.cfg P k with
  | true => rfl
  | false => rfl

theorem dacStrobe_cfg (P : Mask) (s : State) (k : Fin 3) : (dacStrobe P s k).cfg = s.cfg := by rw [dacStrobe_frame]

/-- The strobes are made in order of the channels, so the record has them in reverse. -/
theorem dacStrobes_dacCalls (P : Mask) (s : State) :
    (dacStrobes P s).dacCalls =
      (([2, 1, 0] : List (Fin 3)).filter (dacSelected s.cfg P)).map DacCall.phaseReset ++ s.dacCalls := by
  simp only [dacStrobes, dacStrobe_dacCalls, dacStrobe_cfg, ← List.append_assoc, ← List.map_append,
    ← List.filter_append, List.singleton_append]

theorem applyPhaseReset_dacCalls (P : Mask) (s : State) :
    (applyPhaseReset P s).dacCalls =
      (([2, 1, 0] : List (Fin 3)).filter (dacSelected s.cfg P)).map DacCall.phaseReset ++ s.dacCalls :=
  dacStrobes_dacCalls P _

/-- The internal step makes the strobes of its phase reset and then one `DacStep` (R205, R210). -/
theorem internalStep_dacCalls (s : State) :
    (internalStep s).dacCalls = .step :: (applyPhaseReset (pulseSet s) s).dacCalls := by
  have hstrobes : (applyPhaseReset (pulseSet s) (advanceTimers s)).dacCalls =
      (applyPhaseReset (pulseSet s) s).dacCalls := by
    rw [applyPhaseReset_dacCalls, applyPhaseReset_dacCalls]; rfl
  rw [← hstrobes]
  rfl

/-- Settles O31. -/
theorem phaseResetPropagates : Obligations.PhaseResetPropagates := by
  intro P s
  exact ⟨applyPhaseReset_dds P s, applyPhaseReset_nz P s, applyPhaseReset_dacCalls P s, applyPhaseReset_frame P s,
    internalStep_dacCalls s, internalStep_frame s⟩

end Sys2Proof.Machine
end

section
/-! The fields of State that no command and no internal step reads or writes: the queue, the mute flags, the outputs, the
sequencer's phase, the host's side and the DAC port (R60, R85, R210). A change of these can be made before or after. -/

namespace Sys2Proof.Machine

/-! ### Changes aside -/

/-- `g` changes only what commands and internal steps leave alone: it keeps every parameter but the DAC port, and it commutes
with every update of the units and of the record of DAC calls. -/
structure Aside (g : State → State) : Prop where
  cfg : ∀ s, (g s).cfg = { s.cfg with dacPort := (g s).cfg.dacPort }
  units : ∀ (s : State) (d : Vector DdsChannel 4) (n : NoiseChannel) (p : Vector PhaseTimer 5) (c : List DacCall),
    g { s with dds := d, nz := n, prt := p, dacCalls := c } = { g s with dds := d, nz := n, prt := p, dacCalls := c }

theorem aside_withQueue (q : List Command) : Aside (·.withQueue q) := ⟨fun _ => rfl, fun _ _ _ _ _ => rfl⟩

theorem aside_withPhase (p : SeqPhase) : Aside (·.withPhase p) := ⟨fun _ => rfl, fun _ _ _ _ _ => rfl⟩

theorem aside_withClock (j : Option ClockJob) : Aside (·.withClock j) := ⟨fun _ => rfl, fun _ _ _ _ _ => rfl⟩

namespace Aside
variable {g : State → State} (hg : Aside g) (s : State)
include hg

/-- What is read of the parameters, and not of the DAC port, is the same after `g`. -/
theorem reads {α : Type} (F : Config → α) (hF : ∀ c port, F { c with dacPort := port } = F c) :
    F (g s).cfg = F s.cfg := by
  rw [hg.cfg]; exact hF _ _

theorem dds : (g s).dds = s.dds := (congrArg State.dds (hg.units s s.dds s.nz s.prt s.dacCalls) :)
theorem nz : (g s).nz = s.nz := (congrArg State.nz (hg.units s s.dds s.nz s.prt s.dacCalls) :)
theorem prt : (g s).prt = s.prt := (congrArg State.prt (hg.units s s.dds s.nz s.prt s.dacCalls) :)
theorem dacCalls : (g s).dacCalls = s.dacCalls := (congrArg State.dacCalls (hg.units s s.dds s.nz s.prt s.dacCalls) :)
theorem hasDac : (g s).cfg.hasDac = s.cfg.hasDac := hg.reads s Config.hasDac fun _ _ => rfl
theorem hasPrt : (g s).cfg.hasPrt = s.cfg.hasPrt := hg.reads s Config.hasPrt fun _ _ => rfl

/-- An update of the units that computes the same before and after `g` commutes with `g`. -/
theorem update {u : State → State}
    (hframe : ∀ s, u s = { s with dds := (u s).dds, nz := (u s).nz, prt := (u s).prt, dacCalls := (u s).dacCalls })
    (hdds : (u (g s)).dds = (u s).dds) (hnz : (u (g s)).nz = (u s).nz) (hprt : (u (g s)).prt = (u s).prt)
    (hcalls : (u (g s)).dacCalls = (u s).dacCalls) : u (g s) = g (u s) := by
  rw [hframe (g s), hdds, hnz, hprt, hcalls, ← hg.units, ← hframe s]

theorem modifyDds (i : Fin 4) (f : DdsChannel → DdsChannel) : (g s).modifyDds i f = g (s.modifyDds i f) :=
  hg.update s (u := (·.modifyDds i f)) (fun _ => rfl) (by simp [hg.dds]) (hg.nz s) (hg.prt s) (hg.dacCalls s)

theorem modifyNz (f : NoiseChannel → NoiseChannel) : (g s).modifyNz f = g (s.modifyNz f) :=
  hg.update s (u := (·.modifyNz f)) (fun _ => rfl) (hg.dds s) (congrArg f (hg.nz s)) (hg.prt s) (hg.dacCalls s)

theorem modifyPrt (t : Fin 8) (f : PhaseTimer → PhaseTimer) : (g s).modifyPrt t f = g (s.modifyPrt t f) :=
  hg.update s (u := (·.modifyPrt t f)) (fun _ => rfl) (hg.dds s) (hg.nz s) (by simp [hg.prt, hg.hasPrt])
    (hg.dacCalls s)

theorem callDac (c : DacCall) : (g s).callDac c = g (s.callDac c) :=
  hg.update s (u := (·.callDac c)) (fun _ => rfl) (hg.dds s) (hg.nz s) (hg.prt s) (congrArg (c :: ·) (hg.dacCalls s))

end Aside

/-! ### Operations that carry a change -/

/-- `f` carries the change `g`: made before `f`, it stands after `f`, and `f` does the same for the rest. -/
def Carries (g : State → State) (f : State → Out) : Prop := ∀ ⦃s t : State⦄, f s = .next t → f (g s) = .next (g t)

theorem andThen_eq_next_iff {o : Out} {f : State → Out} {t : State} :
    andThen o f = .next t ↔ ∃ u, o = .next u ∧ f u = .next t := by
  cases o with
  | next u => simp
  | fault r => exact nomatch r
  | refused r => simp

theorem Carries.andThen {g : State → State} {f k : State → Out} (hf : Carries g f) (hk : Carries g k) :
    Carries g fun s => andThen (f s) k := by
  intro s t h
  obtain ⟨u, hu, ht⟩ := andThen_eq_next_iff.mp h
  exact andThen_eq_next_iff.mpr ⟨g u, hf hu, hk ht⟩

theorem Carries.next {g f : State → State} (h : ∀ s, f (g s) = g (f s)) : Carries g fun s => .next (f s) := by
  intro s t ht
  cases ht
  exact congrArg Host.Outcome.next (h s)

theorem dispatch_instr {s : State} {m : Command} {i : Instr} (h : decode s.cfg m = .instr i) :
    dispatch m s = exec i s := by
  rw [dispatch, h]

namespace Aside
variable {g : State → State} (hg : Aside g)
include hg

/-- Every instruction writes one unit or records one DAC call, or changes nothing (R85). -/
theorem exec (i : Instr) : Carries g (Machine.exec i) := by
  cases i with
  | ddsFreq n v => exact .next fun s => hg.modifyDds s n _
  | ddsWave n v =>
    show Carries g (execDdsWave n v)
    unfold execDdsWave
    cases waveformOfCode v.toNat with
    | none => exact .next (f := id) fun s => rfl
    | some wf => exact .next fun s => hg.modifyDds s n _
  | ddsPw n v => exact .next fun s => hg.modifyDds s n _
  | ddsVol n v => exact .next fun s => hg.modifyDds s n _
  | ddsZcen n v => exact .next fun s => hg.modifyDds s n _
  | nzFreq v => exact .next fun s => by rw [hg.nz, hg.modifyNz, apply_ite g]
  | nzClk v => exact .next fun s => hg.modifyNz s _
  | nzSeed v => exact .next fun s => hg.modifyNz s _
  | nzVol v => exact .next fun s => hg.modifyNz s _
  | nzZcen v => exact .next fun s => hg.modifyNz s _
  | dacFwd k cmd v => exact .next fun s => by rw [hg.hasDac, hg.callDac, apply_ite g]
  | prtFreq t v => exact .next fun s => hg.modifyPrt s t _
  | prtMask t v => exact .next fun s => hg.modifyPrt s t _
  | prtEn t v => exact .next fun s => hg.modifyPrt s t _

/-- Decoding reads how many DAC channels and timers there are, and not the port (R83, R89). -/
theorem dispatch (m : Command) : Carries g (Machine.dispatch m) := by
  intro s t h
  have hdecode : decode (g s).cfg m = decode s.cfg m := hg.reads s (decode · m) fun _ _ => rfl
  cases hm : decode s.cfg m with
  | instr i =>
    rw [dispatch_instr hm] at h
    rw [dispatch_instr (hdecode.trans hm)]
    exact hg.exec i h
  | ignored why =>
    rw [dispatch_ignored hm] at h
    rw [dispatch_ignored (hdecode.trans hm)]
    cases h; rfl

theorem applyAll (ms : List Command) : Carries g (Machine.applyAll ms) := by
  induction ms with
  | nil => exact .next fun s => rfl
  | cons m ms ih => exact (hg.dispatch m).andThen ih

/-- A drain slot reads and pops the queue, so the change is to leave it (R195). -/
theorem drainSlot (hqueue : ∀ s q, g (s.withQueue q) = (g s).withQueue q) : Carries g Machine.drainSlot := by
  intro s t h
  have hsame : (g s).queue = s.queue := (congrArg State.queue (hqueue s s.queue) :)
  cases hq : s.queue with
  | nil =>
    rw [drainSlot_nil hq] at h
    rw [drainSlot_nil (hsame.trans hq)]
    cases h; rfl
  | cons m rest =>
    rw [drainSlot_cons hq] at h
    rw [drainSlot_cons (hsame.trans hq), ← hqueue]
    exact hg.dispatch m h

theorem pulseSet (s : State) : Machine.pulseSet (g s) = Machine.pulseSet s := by
  simp only [Machine.pulseSet, timerPulse, hg.hasPrt, hg.prt]

theorem applyPhaseReset_dacCalls (P : Mask) (s : State) :
    (applyPhaseReset P (g s)).dacCalls = (applyPhaseReset P s).dacCalls := by
  rw [Machine.applyPhaseReset_dacCalls, Machine.applyPhaseReset_dacCalls, hg.dacCalls,
    hg.reads s (dacSelected · P) fun _ _ => rfl]

theorem internalStep (s : State) : Machine.internalStep (g s) = g (Machine.internalStep s) := by
  refine hg.update s internalStep_frame (Vector.ext fun i hi => ?_) ?_ ?_ ?_
  · have hstep := hg.reads s ddsStep fun _ _ => rfl
    have hchannel : ∀ j : Fin 4, (Machine.internalStep (g s)).dds[j] = (Machine.internalStep s).dds[j] := fun j => by
      rw [internalStep_dds, internalStep_dds, hg.pulseSet, hg.dds, hstep]
    exact hchannel ⟨i, hi⟩
  · rw [internalStep_nz, internalStep_nz, hg.pulseSet, hg.nz, hg.reads s noiseStep fun _ _ => rfl]
  · simp only [internalStep_prt, advanceTimers, State.mapPrt_prt, hg.hasPrt, hg.prt]
  · rw [internalStep_dacCalls, internalStep_dacCalls, hg.pulseSet, hg.applyPhaseReset_dacCalls]

theorem stepAll (s : State) : Machine.stepAll (g s) = g (Machine.stepAll s) := by
  have hsteps : (g s).cfg.steps = s.cfg.steps := hg.reads s Config.steps fun _ _ => rfl
  rw [Machine.stepAll, Machine.stepAll, hsteps]
  generalize s.cfg.steps = n
  induction n generalizing s with
  | zero => rfl
  | succ n ih => rw [repeatState_succ, repeatState_succ, hg.internalStep, ih _ (hg.reads _ Config.steps fun _ _ => rfl)]

end Aside

end Sys2Proof.Machine
end

section
/-! The dispatch of a command and the host's operations: each step that takes one, with its whole next state (R190 to R192,
R195, R200, R205, R217), and which operations are refused (R219, R270). -/

namespace Sys2Proof.Machine

/-! ### Commands in a drain slot (R195, R200, R205) -/

theorem exec_dacFwd_present {s : State} {k : Fin 3} (h : s.cfg.hasDac k = true) (cmd : CmdType) (v : Value) :
    exec (.dacFwd k cmd v) s = .next (s.callDac (.write k cmd v)) :=
  congrArg Host.Outcome.next (if_pos h)

/-- Settles O15, by whether the channel exists. -/
theorem dacFwdForwards : Obligations.DacFwdForwards := by
  intro k cmd v s
  refine ⟨by rw [encode, addrMake_toNat, dacIndex_toNat], ?_⟩
  cases h : s.cfg.hasDac k with
  | true =>
    have hlt : k.val < s.cfg.numDac.num := of_decide_eq_true h
    exact ⟨_, exec_dacFwd_present h cmd v, s.callDac_only _, fun _ => rfl, fun hge => absurd hlt (Nat.not_lt_of_le hge)⟩
  | false =>
    have hge : s.cfg.numDac.num ≤ k.val := (hasDac_eq_false_iff _ _).mp h
    exact ⟨s, exec_dacFwd_absent h cmd v, rfl, fun hlt => absurd hlt (Nat.not_lt_of_le hge), fun _ => rfl⟩

/-- Settles O39. -/
theorem stepRunsTheDecodedCommand : Obligations.StepRunsTheDecodedCommand := by
  intro s j m rest i hphase hqueue hdecode
  calc step s = drainSlot (s.withPhase (afterDrain s.cfg j)) := step_drain s j hphase
    _ = dispatch m ((s.withPhase (afterDrain s.cfg j)).withQueue rest) := drainSlot_cons hqueue
    _ = exec i ((s.withPhase (afterDrain s.cfg j)).withQueue rest) := dispatch_instr hdecode

/-! ### Operations of the host (R218, R219) -/

/-- The cases of `StepsTo` are steps: the converse of `step_cases`. -/
theorem step_of_stepsTo {s t : State} (h : StepsTo s t) : step s = .next t := by
  cases h with
  | wait hphase hclock hops => exact step_waiting hphase hclock hops
  | clock j hphase hclock => rw [step_idle s hphase, idleAction, hclock]
  | enqueue a v rest htakes hrange =>
    obtain ⟨hphase, hclock, hops⟩ := htakes
    exact (step_host s _ rest hphase hclock hops).trans (if_pos hrange)
  | queueStatus rest htakes | tick rest htakes | reset p rest htakes =>
    obtain ⟨hphase, hclock, hops⟩ := htakes
    exact step_host s _ rest hphase hclock hops
  | clockAndMix n rest htakes hrange =>
    obtain ⟨hphase, hclock, hops⟩ := htakes
    exact (step_host s _ rest hphase hclock hops).trans (if_pos hrange)
  | setMuted ch m rest htakes hrange =>
    obtain ⟨hphase, hclock, hops⟩ := htakes
    exact (step_host s _ rest hphase hclock hops).trans (if_pos hrange)
  | drain j hphase hslot => exact (step_drain s j hphase).trans hslot
  | step n hphase => exact step_step s n hphase
  | mix hphase => exact step_mix s hphase

/-- Settles O41. -/
theorem enqueueAppendsOrDrops : Obligations.EnqueueAppendsOrDrops := by
  intro s a v rest htakes ha hv
  have hstep := step_of_stepsTo (.enqueue a v rest htakes ⟨ha, hv⟩)
  refine ⟨fun hroom => ?_, fun hfull => ?_⟩
  · exact hstep.trans (congrArg Host.Outcome.next (if_pos hroom))
  · exact hstep.trans (congrArg Host.Outcome.next (if_neg (Nat.not_lt_of_le hfull)))

/-- Settles O42. -/
theorem queueStatusReads : Obligations.QueueStatusReads :=
  fun _ rest htakes => step_of_stepsTo (.queueStatus rest htakes)

/-- Settles O43; a channel of the block is one of the eight places. -/
theorem setMutedWritesOneFlag : Obligations.SetMutedWritesOneFlag := by
  intro s ch m rest htakes hch hm
  refine ⟨_, step_of_stepsTo (.setMuted ch m rest htakes ⟨hch, hm⟩), fun c => ?_, rfl⟩
  have hplace : (Fin.ofNat 8 ch).val = ch := Nat.mod_eq_of_lt (Nat.lt_of_lt_of_le hch (numCh_le _))
  show (s.mute.set (Fin.ofNat 8 ch).val (m == 1))[c.val] = _
  rw [Vector.getElem_set, hplace, beq_eq_decide]
  simp only [eq_comm (a := ch)]
  rfl

/-! ### Refusals (R219, R270) -/

theorem hostOp_inRange {op : HostOp} {s : State} (h : opInRange s.cfg op) : ∃ t, hostOp op s = .next t := by
  cases op with
  | enqueue a v => exact ⟨_, if_pos h⟩
  | clockAndMix n => exact ⟨_, if_pos h⟩
  | setMuted ch m => exact ⟨_, if_pos h⟩
  | queueStatus | tick | reset p => exact ⟨_, rfl⟩

theorem hostOp_outOfRange {op : HostOp} {s : State} (h : ¬ opInRange s.cfg op) : ∃ r, hostOp op s = .refused r := by
  cases op with
  | enqueue a v => exact ⟨_, if_neg h⟩
  | clockAndMix n => exact ⟨_, if_neg h⟩
  | setMuted ch m => exact ⟨_, if_neg h⟩
  | queueStatus | tick | reset p => exact absurd trivial h

theorem step_refused {s : State} {op : HostOp} {rest : List HostOp} (htakes : takes op rest s)
    (h : ¬ opInRange s.cfg op) : ∃ r, step s = .refused r := by
  obtain ⟨hphase, hclock, hops⟩ := htakes
  rw [step_host s op rest hphase hclock hops]
  exact hostOp_outOfRange (s := s.withHostOps rest) h

/-- A step that takes no operand outside its type has a next state. -/
theorem step_next {s : State} (h : ∀ op rest, takes op rest s → opInRange s.cfg op) : ∃ t, step s = .next t := by
  cases hphase : s.phase with
  | idle =>
    cases hclock : s.clock with
    | some j => exact ⟨_, step_of_stepsTo (.clock j hphase hclock)⟩
    | none =>
      cases hops : s.hostOps with
      | nil => exact ⟨s, step_waiting hphase hclock hops⟩
      | cons op rest =>
        rw [step_host s op rest hphase hclock hops]
        exact hostOp_inRange (s := s.withHostOps rest) (h op rest ⟨hphase, hclock, hops⟩)
  | drain j =>
    obtain ⟨t, ht, _⟩ := drainSlot_next (s.withPhase (afterDrain s.cfg j))
    exact ⟨t, step_of_stepsTo (.drain j hphase ht)⟩
  | step n => exact ⟨_, step_step s n hphase⟩
  | mix => exact ⟨_, step_mix s hphase⟩

/-- Settles O44: the step of either kind is not of the other. -/
theorem onlyHostOperandsAreRefused : Obligations.OnlyHostOperandsAreRefused := by
  intro s
  by_cases hout : ∃ op rest, takes op rest s ∧ ¬ opInRange s.cfg op
  · have ⟨op, rest, htakes, hrange⟩ := hout
    obtain ⟨r, hr⟩ := step_refused htakes hrange
    exact ⟨iff_of_false (by simp [hr]) (not_not.mpr hout), iff_of_true ⟨r, hr⟩ hout⟩
  · obtain ⟨t, ht⟩ := step_next fun op rest htakes =>
      not_not.mp fun hrange => hout ⟨op, rest, htakes, hrange⟩
    exact ⟨iff_of_true ⟨t, ht⟩ hout, iff_of_false (by simp [ht]) hout⟩

end Sys2Proof.Machine
end

section
/-! The queue over ticks: the drain slots apply the head of the queue in order (R195, R196), and after `M` ticks the first
`M * P_DRAIN` entries have been applied and the rest have had no effect (R197). -/

namespace Sys2Proof.Machine

/-! ### The drain slots of a tick (R195, R196) -/

/-- `n` drain slots apply the first `n` entries: a command reads nothing of the queue, so it may be cut first. -/
theorem repeatOut_drainSlot (n : Nat) (s : State) :
    repeatOut n drainSlot s = applyAll (s.queue.take n) (s.withQueue (s.queue.drop n)) := by
  induction n generalizing s with
  | zero => rfl
  | succ n ih =>
    cases hq : s.queue with
    | nil =>
      rw [repeatOut_succ, drainSlot_nil hq, andThen_next, ih, hq, List.take_nil, List.drop_nil, List.take_nil,
        List.drop_nil]
    | cons m q =>
      obtain ⟨t, ht, hframe⟩ := dispatch_next m (s.withQueue q)
      have htq : t.queue = q := congrArg State.queue hframe
      have hcut : dispatch m (s.withQueue (q.drop n)) = .next (t.withQueue (q.drop n)) :=
        ((aside_withQueue (q.drop n)).dispatch m ht :)
      rw [repeatOut_succ, drainSlot_cons hq, ht, andThen_next, ih, htq, List.take_succ_cons, List.drop_succ_cons,
        applyAll_cons, hcut, andThen_next]

/-- Settles O49. -/
theorem tickDrainsFromTheFront : Obligations.TickDrainsFromTheFront := fun s => repeatOut_drainSlot s.cfg.drain s

/-! ### Ticks on a queue and ticks on a list of commands (R197) -/

/-- The internal steps and the mix neither read nor write the queue. -/
theorem mix_stepAll_withQueue (q : List Command) (s : State) :
    mix (stepAll (s.withQueue q)) = (mix (stepAll s)).withQueue q := by
  rw [(aside_withQueue q).stepAll]; rfl

theorem mix_stepAll_cfg (s : State) : (mix (stepAll s)).cfg = s.cfg := by rw [mix_frame, stepAll_frame]

theorem mix_stepAll_queue (s : State) : (mix (stepAll s)).queue = s.queue := by rw [mix_frame, stepAll_frame]

/-- A tick on a list of commands: they are applied, and the clock part of the tick follows. -/
theorem applyTicks_of_applyAll {n : Nat} {ms : List Command} {s t : State}
    (h : applyAll (ms.take s.cfg.drain) s = .next t) :
    applyTicks (n + 1) ms s = applyTicks n (ms.drop s.cfg.drain) (mix (stepAll t)) := by
  rw [applyTicks_succ, h, andThen_next]

/-- Ticks on a list of commands always end, and leave the parameters and the queue. -/
theorem applyTicks_next (n : Nat) (ms : List Command) (s : State) :
    ∃ t, applyTicks n ms s = .next t ∧ t.cfg = s.cfg ∧ t.queue = s.queue := by
  induction n generalizing ms s with
  | zero => exact ⟨s, rfl, rfl, rfl⟩
  | succ n ih =>
    obtain ⟨t, ht, hframe⟩ := applyAll_next (ms.take s.cfg.drain) s
    obtain ⟨u, hu, hcfg, hqueue⟩ := ih (ms.drop s.cfg.drain) (mix (stepAll t))
    refine ⟨u, by rw [applyTicks_of_applyAll ht, hu], ?_, ?_⟩
    · rw [hcfg, mix_stepAll_cfg, hframe]
    · rw [hqueue, mix_stepAll_queue, hframe]

/-- What stands in the queue has no effect on ticks that take their commands from a list. -/
theorem applyTicks_carries_withQueue (q : List Command) (n : Nat) (ms : List Command) :
    Carries (·.withQueue q) (applyTicks n ms) := by
  induction n generalizing ms with
  | zero => exact .next fun s => rfl
  | succ n ih =>
    intro s u h
    obtain ⟨t, ht, hu⟩ := andThen_eq_next_iff.mp h
    have hcarried := (aside_withQueue q).applyAll _ ht
    refine (applyTicks_of_applyAll hcarried).trans ?_
    rw [mix_stepAll_withQueue]
    exact ih _ hu

/-- Only the first `n * P_DRAIN` commands are applied in `n` ticks. -/
theorem applyTicks_take (n : Nat) (ms : List Command) (s : State) :
    applyTicks n (ms.take (n * s.cfg.drain)) s = applyTicks n ms s := by
  induction n generalizing ms s with
  | zero => rfl
  | succ n ih =>
    obtain ⟨t, ht, hframe⟩ := applyAll_next (ms.take s.cfg.drain) s
    have hcfg : (mix (stepAll t)).cfg = s.cfg := by rw [mix_stepAll_cfg, hframe]
    have hfirst : (ms.take ((n + 1) * s.cfg.drain)).take s.cfg.drain = ms.take s.cfg.drain := by
      rw [List.take_take, Nat.min_eq_left (Nat.le_mul_of_pos_left _ n.succ_pos)]
    have hrest : (ms.take ((n + 1) * s.cfg.drain)).drop s.cfg.drain = (ms.drop s.cfg.drain).take (n * s.cfg.drain) := by
      rw [List.drop_take, Nat.succ_mul, Nat.add_sub_cancel]
    rw [applyTicks_of_applyAll ht, applyTicks_of_applyAll (hfirst ▸ ht), hrest, ← hcfg, ih]

/-- `n` ticks apply the queue as a list of commands, and leave what lies beyond the first `n * P_DRAIN` entries. -/
theorem repeatOut_tick (n : Nat) (s : State) :
    repeatOut n tick s = applyTicks n s.queue (s.withQueue (s.queue.drop (n * s.cfg.drain))) := by
  induction n generalizing s with
  | zero => rw [Nat.zero_mul]; rfl
  | succ n ih =>
    obtain ⟨t, ht, hframe⟩ := applyAll_next (s.queue.take s.cfg.drain) (s.withQueue (s.queue.drop s.cfg.drain))
    have hdrained : drainAll s = .next t := (tickDrainsFromTheFront s).trans ht
    have hcfg : (mix (stepAll t)).cfg = s.cfg := by rw [mix_stepAll_cfg, hframe]; rfl
    have hqueue : (mix (stepAll t)).queue = s.queue.drop s.cfg.drain := by rw [mix_stepAll_queue, hframe]; rfl
    have hcut : applyAll (s.queue.take s.cfg.drain) (s.withQueue (s.queue.drop ((n + 1) * s.cfg.drain))) =
        .next (t.withQueue (s.queue.drop ((n + 1) * s.cfg.drain))) :=
      ((aside_withQueue _).applyAll _ ht :)
    calc repeatOut (n + 1) tick s = repeatOut n tick (mix (stepAll t)) := by
          rw [repeatOut_succ, tick, hdrained, andThen_next, andThen_next]
      _ = applyTicks n (s.queue.drop s.cfg.drain)
            ((mix (stepAll t)).withQueue (s.queue.drop ((n + 1) * s.cfg.drain))) := by
          rw [ih, hqueue, hcfg, List.drop_drop, Nat.succ_mul, Nat.add_comm]
      _ = applyTicks (n + 1) s.queue (s.withQueue (s.queue.drop ((n + 1) * s.cfg.drain))) := by
          rw [applyTicks_of_applyAll hcut, mix_stepAll_withQueue]; rfl

/-- Settles O50: all three runs are the ticks on the queue's commands as a list, with another queue behind them. -/
theorem queueRateLimit : Obligations.QueueRateLimit := by
  intro M s
  obtain ⟨t, ht, _, hqueue⟩ := applyTicks_next M s.queue (s.withQueue (s.queue.drop (M * s.cfg.drain)))
  have hempty : applyTicks M (s.queue.take (M * s.cfg.drain)) (s.withQueue []) = .next (t.withQueue []) :=
    (applyTicks_take M s.queue (s.withQueue [])).trans (applyTicks_carries_withQueue [] M s.queue ht :)
  refine ⟨t, (repeatOut_tick M s).trans ht, hqueue, hempty, ?_⟩
  rw [repeatOut_tick, State.withQueue_cfg, State.withQueue_queue, List.drop_take, Nat.sub_self, List.take_zero]
  exact hempty

end Sys2Proof.Machine
end

section
/-! The tick as an operation of the host: the sequencer's walk of phases is the atomic `Tick` (R201, R213), and
`ClockAndMix(n)` is `n` of these walks (R214). -/

namespace Sys2Proof.Machine

/-! ### Runs -/

theorem run_succ_of_step {M : Host.Core} {s t : M.State} (h : M.step s = .next t) (n : Nat) :
    M.run (n + 1) s = M.run n t := by
  rw [Host.Core.run, h]

/-- A run of the machine is its step, repeated. -/
theorem run_of_repeatOut_step {n : Nat} {s t : State} (h : repeatOut n step s = .next t) :
    Sys2Proof.core.run n s = .next t := by
  induction n generalizing s with
  | zero => exact h
  | succ n ih =>
    obtain ⟨u, hu, hrest⟩ := andThen_eq_next_iff.mp h
    exact (run_succ_of_step (M := Sys2Proof.core) hu n).trans (ih hrest)

theorem repeatOut_succ_of_next {f : State → Out} {s t : State} (h : f s = .next t) (n : Nat) :
    repeatOut (n + 1) f s = repeatOut n f t := by
  rw [repeatOut_succ, h, andThen_next]

/-- A repetition goes on from where a shorter one ends. -/
theorem repeatOut_add_of_next {f : State → Out} {m : Nat} {s t : State} (h : repeatOut m f s = .next t) (n : Nat) :
    repeatOut (m + n) f s = repeatOut n f t := by
  induction m generalizing s with
  | zero => cases h; rw [Nat.zero_add]
  | succ m ih =>
    obtain ⟨u, hu, hrest⟩ := andThen_eq_next_iff.mp h
    rw [Nat.succ_add, repeatOut_succ_of_next hu, ih hrest]

/-! ### The walk of one tick (R201) -/

/-- The phase at drain slot `j` of a tick, or after the last one. -/
def drainPhase (c : Config) (j : Nat) : SeqPhase := if j < c.drain then .drain j else .step 0

/-- The phase at internal step `n` of a tick, or after the last one. -/
def stepPhase (c : Config) (n : Nat) : SeqPhase := if n < c.steps then .step n else .mix

theorem afterDrain_eq (c : Config) (j : Nat) : afterDrain c j = drainPhase c (j + 1) := rfl
theorem afterStep_eq (c : Config) (n : Nat) : afterStep c n = stepPhase c (n + 1) := rfl
theorem drainPhase_of_lt {c : Config} {j : Nat} (h : j < c.drain) : drainPhase c j = .drain j := if_pos h
theorem drainPhase_end (c : Config) : drainPhase c c.drain = .step 0 := if_neg (Nat.lt_irrefl _)
theorem stepPhase_of_lt {c : Config} {n : Nat} (h : n < c.steps) : stepPhase c n = .step n := if_pos h
theorem stepPhase_end (c : Config) : stepPhase c c.steps = .mix := if_neg (Nat.lt_irrefl _)

/-- A drain slot of the walk is `DrainSlot`, which the phase does not concern. -/
theorem step_drainPhase {j : Nat} {s t : State} (hj : j < s.cfg.drain) (h : drainSlot s = .next t) :
    step (s.withPhase (drainPhase s.cfg j)) = .next (t.withPhase (drainPhase s.cfg (j + 1))) := by
  rw [drainPhase_of_lt hj, step_drain _ j rfl, State.withPhase_cfg, afterDrain_eq]
  exact ((aside_withPhase (drainPhase s.cfg (j + 1))).drainSlot (fun _ _ => rfl) h :)

/-- An internal step of the walk is `InternalStep`, which the phase does not concern. -/
theorem step_stepPhase {n : Nat} {s : State} (hn : n < s.cfg.steps) :
    step (s.withPhase (stepPhase s.cfg n)) = .next ((internalStep s).withPhase (stepPhase s.cfg (n + 1))) := by
  rw [stepPhase_of_lt hn, step_step _ n rfl, State.withPhase_cfg, afterStep_eq]
  exact congrArg Host.Outcome.next ((aside_withPhase (stepPhase s.cfg (n + 1))).internalStep s)

/-- The last `n` drain slots of a tick, as phases. -/
theorem walk_drainSlots (n j : Nat) {s t : State} (hj : j + n = s.cfg.drain) (h : repeatOut n drainSlot s = .next t) :
    repeatOut n step (s.withPhase (drainPhase s.cfg j)) = .next (t.withPhase (.step 0)) := by
  induction n generalizing j s with
  | zero =>
    rw [show j = s.cfg.drain from hj, drainPhase_end]
    cases h; rfl
  | succ n ih =>
    obtain ⟨u, hu, hrest⟩ := andThen_eq_next_iff.mp h
    have hcfg : u.cfg = s.cfg := by rw [drainSlot_frame hu]
    rw [repeatOut_succ_of_next (step_drainPhase (by omega) hu), ← hcfg]
    exact ih (j + 1) (by rw [hcfg]; omega) hrest

/-- The last `n` internal steps of a tick, as phases. -/
theorem walk_internalSteps (n j : Nat) {s : State} (hj : j + n = s.cfg.steps) :
    repeatOut n step (s.withPhase (stepPhase s.cfg j)) = .next ((repeatState n internalStep s).withPhase .mix) := by
  induction n generalizing j s with
  | zero => rw [show j = s.cfg.steps from hj, stepPhase_end, repeatOut_zero, repeatState_zero]
  | succ n ih =>
    have hcfg : (internalStep s).cfg = s.cfg := by rw [internalStep_frame]
    rw [repeatOut_succ_of_next (step_stepPhase (by omega)), ← hcfg, repeatState_succ]
    exact ih (j + 1) (by rw [hcfg]; omega)

/-- A tick writes the units, the record of DAC calls, the queue and the outputs only (R213). -/
theorem tick_next (s : State) :
    ∃ t, tick s = .next t ∧
      t = { s with dds := t.dds, nz := t.nz, prt := t.prt, dacCalls := t.dacCalls, queue := t.queue, y := t.y,
                   master := t.master } := by
  obtain ⟨t, ht, hframe⟩ := drainAll_next s
  exact ⟨mix (stepAll t), by rw [tick, ht, andThen_next], by rw [mix_frame, stepAll_frame, hframe]⟩

theorem tick_frame {s t : State} (h : tick s = .next t) :
    t = { s with dds := t.dds, nz := t.nz, prt := t.prt, dacCalls := t.dacCalls, queue := t.queue, y := t.y,
                 master := t.master } := by
  obtain ⟨u, hu, hframe⟩ := tick_next s
  cases hu.symm.trans h
  exact hframe

/-- The phases of a tick, from its first drain slot to IDLE, do `Tick` and hand its sample over (R201, R213). -/
theorem walk_tick {s t : State} (hlegal : s.cfg.legal = true) (h : tick s = .next t) :
    repeatOut (s.cfg.drain + s.cfg.steps + 1) step (s.withPhase (.drain 0)) =
      .next (deliver (t.withPhase .idle)) := by
  obtain ⟨hdrain, hsteps⟩ := legal_counts hlegal
  obtain ⟨u, hu, hmix⟩ := andThen_eq_next_iff.mp h
  have hcfg : u.cfg = s.cfg := by
    obtain ⟨_, hv, hframe⟩ := drainAll_next s
    cases hv.symm.trans hu
    rw [hframe]
  have hdrains : repeatOut s.cfg.drain step (s.withPhase (.drain 0)) = .next (u.withPhase (.step 0)) := by
    rw [← drainPhase_of_lt hdrain]
    exact walk_drainSlots s.cfg.drain 0 (Nat.zero_add _) hu
  have hclocks : repeatOut s.cfg.steps step (u.withPhase (.step 0)) = .next ((stepAll u).withPhase .mix) := by
    rw [← hcfg, ← stepPhase_of_lt (hcfg ▸ hsteps)]
    exact walk_internalSteps u.cfg.steps 0 (Nat.zero_add _)
  cases hmix
  rw [Nat.add_assoc, repeatOut_add_of_next hdrains, repeatOut_add_of_next hclocks,
    repeatOut_succ_of_next (step_mix _ rfl)]
  rfl

theorem deliver_of_none {s : State} (h : s.clock = none) : deliver s = s.answer (.sample s.master s.outputs) := by
  rw [deliver, h]

theorem deliver_of_some {s : State} {j : ClockJob} (h : s.clock = some j) :
    deliver s = s.withClock (some { j with master := j.master ++ [s.master], y := j.y ++ [s.outputs] }) := by
  rw [deliver, h]

/-- Settles O55: IDLE takes the operation, the phases of a tick follow, and with no `ClockAndMix` in progress the host gets
the sample. -/
theorem sequencerWalkIsTheTick : Obligations.SequencerWalkIsTheTick := by
  intro s rest hlegal htakes
  have ⟨hphase, hclock, _⟩ := htakes
  obtain ⟨t, ht, hframe⟩ := tick_next (s.withHostOps rest)
  have hwalk := walk_tick (s := s.withHostOps rest) hlegal ht
  have hidle : t.withPhase .idle = t := by rw [hframe, ← hphase]; rfl
  have hnone : t.clock = none := by rw [hframe]; exact hclock
  have hreturns : t.returns = s.returns := by rw [hframe]; rfl
  refine ⟨t, ht, run_of_repeatOut_step ?_⟩
  rw [walkLength, repeatOut_succ_of_next (step_of_stepsTo (.tick rest htakes)), ← hreturns]
  refine hwalk.trans ?_
  rw [hidle, deliver_of_none hnone]
  rfl

/-! ### `ClockAndMix` (R214) -/

/-- The state after a tick. -/
def afterTick (s : State) : State :=
  match tick s with
  | .next t => t
  | .fault _ | .refused _ => s

theorem afterTick_eq {s t : State} (h : tick s = .next t) : afterTick s = t := by rw [afterTick, h]

theorem tick_eq_afterTick (s : State) : tick s = .next (afterTick s) := by
  obtain ⟨t, ht, _⟩ := tick_next s
  rw [afterTick_eq ht, ht]

theorem repeatOut_tick_eq_iterate (n : Nat) (s : State) : repeatOut n tick s = .next (afterTick^[n] s) := by
  induction n generalizing s with
  | zero => rfl
  | succ n ih => rw [repeatOut_succ, tick_eq_afterTick, andThen_next, ih, Function.iterate_succ_apply]

theorem afterTick_frame (s : State) :
    afterTick s = { s with dds := (afterTick s).dds, nz := (afterTick s).nz, prt := (afterTick s).prt,
                           dacCalls := (afterTick s).dacCalls, queue := (afterTick s).queue, y := (afterTick s).y,
                           master := (afterTick s).master } := tick_frame (tick_eq_afterTick s)

/-- `n` ticks leave the parameters, the mute flags, the phase and the host's side. -/
theorem afterTick_iterate_frame (n : Nat) (s : State) :
    afterTick^[n] s =
      { s with dds := (afterTick^[n] s).dds, nz := (afterTick^[n] s).nz, prt := (afterTick^[n] s).prt,
               dacCalls := (afterTick^[n] s).dacCalls, queue := (afterTick^[n] s).queue, y := (afterTick^[n] s).y,
               master := (afterTick^[n] s).master } := by
  induction n generalizing s with
  | zero => rfl
  | succ n ih => rw [Function.iterate_succ_apply, ih, afterTick_frame s]

/-- The `ClockAndMix` in progress has no part in a tick. -/
theorem afterTick_withClock (j : Option ClockJob) (s : State) :
    afterTick (s.withClock j) = (afterTick s).withClock j := by
  have haside := aside_withClock j
  obtain ⟨t, ht, hmix⟩ := andThen_eq_next_iff.mp (tick_eq_afterTick s)
  have hlast : mix (stepAll t) = afterTick s := by simpa using hmix
  have hdrained : drainAll (s.withClock j) = .next (t.withClock j) := by
    rw [tickDrainsFromTheFront] at ht ⊢
    exact (haside.applyAll _ ht :)
  have hclocked : mix (stepAll (t.withClock j)) = (mix (stepAll t)).withClock j := by rw [haside.stepAll]; rfl
  exact afterTick_eq (by rw [tick, hdrained, andThen_next, hclocked, hlast])

/-- The states after each of `n` ticks, in order. -/
def tickStates (n : Nat) (s : State) : List State := List.iterate afterTick (afterTick s) n

theorem tickStates_succ (n : Nat) (s : State) :
    tickStates (n + 1) s = afterTick s :: tickStates n (afterTick s) := rfl

theorem length_tickStates (n : Nat) (s : State) : (tickStates n s).length = n := List.length_iterate ..

theorem tickStates_getElem? {n k : Nat} (hk : k < n) (s : State) :
    (tickStates n s)[k]? = some (afterTick^[k + 1] s) := by
  rw [tickStates, List.getElem?_iterate _ _ _ _ hk, Function.iterate_succ_apply]

/-- IDLE goes on with the `ClockAndMix` in progress (R214). -/
theorem step_withClock {s : State} (hphase : s.phase = .idle) (j : ClockJob) :
    step (s.withClock (some j)) = .next (continueClock j (s.withClock (some j))) :=
  step_of_stepsTo (.clock j hphase rfl)

/-- One tick of a `ClockAndMix`: the walk from IDLE to IDLE, with the sample added to the job. -/
theorem walk_clock_tick {s : State} (hlegal : s.cfg.legal = true) (hphase : s.phase = .idle) (n : Nat)
    (master : List Sample) (y : List (List Sample)) :
    repeatOut (walkLength s.cfg) step (s.withClock (some ⟨n + 1, master, y⟩)) =
      .next ((afterTick s).withClock
        (some ⟨n, master ++ [(afterTick s).master], y ++ [(afterTick s).outputs]⟩)) := by
  have htick : tick (s.withClock (some ⟨n, master, y⟩)) = .next ((afterTick s).withClock (some ⟨n, master, y⟩)) := by
    rw [tick_eq_afterTick, afterTick_withClock]
  have hidle : (afterTick s).withPhase .idle = afterTick s := by rw [afterTick_frame, ← hphase]; rfl
  rw [walkLength, repeatOut_succ_of_next (step_withClock hphase _)]
  refine (walk_tick (s := s.withClock (some ⟨n, master, y⟩)) hlegal htick).trans ?_
  conv_rhs => rw [← hidle]
  rfl

/-- The ticks of a `ClockAndMix`: the job collects the sample of each, in order. -/
theorem walk_clock_ticks {s : State} (hlegal : s.cfg.legal = true) (hphase : s.phase = .idle) (n : Nat)
    (master : List Sample) (y : List (List Sample)) :
    repeatOut (n * walkLength s.cfg) step (s.withClock (some ⟨n, master, y⟩)) =
      .next ((afterTick^[n] s).withClock
        (some ⟨0, master ++ (tickStates n s).map State.master, y ++ (tickStates n s).map State.outputs⟩)) := by
  induction n generalizing s master y with
  | zero => simp [tickStates]
  | succ n ih =>
    have hcfg : (afterTick s).cfg = s.cfg := by rw [afterTick_frame]
    have hidle : (afterTick s).phase = .idle := by rw [afterTick_frame]; exact hphase
    rw [Nat.succ_mul, Nat.add_comm, repeatOut_add_of_next (walk_clock_tick hlegal hphase n master y), ← hcfg,
      ih (hcfg ▸ hlegal) hidle, tickStates_succ, Function.iterate_succ_apply]
    simp

/-- A `ClockAndMix` from its start: its ticks, and the IDLE in which its buffers are returned. -/
theorem walk_clock {s : State} (hlegal : s.cfg.legal = true) (hphase : s.phase = .idle) (n : Nat) :
    repeatOut (n * walkLength s.cfg + 1) step (s.withClock (some ⟨n, [], []⟩)) =
      .next (((afterTick^[n] s).withClock none).answer
        (.buffers ((tickStates n s).map State.master) (channelBuffers s.cfg ((tickStates n s).map State.outputs)))) := by
  have hcfg : (afterTick^[n] s).cfg = s.cfg := by rw [afterTick_iterate_frame]
  have hidle : (afterTick^[n] s).phase = .idle := by rw [afterTick_iterate_frame]; exact hphase
  have hticks := walk_clock_ticks hlegal hphase n [] []
  rw [repeatOut_add_of_next hticks, repeatOut_succ_of_next (step_withClock hidle _), ← hcfg]
  rfl

/-- The outputs that the host sees are those of the channels (R35, R213). -/
theorem outputs_getD {s : State} {ch : Fin 8} (h : ch.val < s.cfg.numCh) : s.outputs.getD ch.val 0#16 = s.y[ch] := by
  simp [State.outputs, List.getD, h]

theorem length_channelBuffers (c : Config) (y : List (List Sample)) : (channelBuffers c y).length = c.numCh := by
  simp [channelBuffers]

theorem length_of_mem_channelBuffers {c : Config} {y : List (List Sample)} {b : List Sample}
    (h : b ∈ channelBuffers c y) : b.length = y.length := by
  obtain ⟨ch, _, rfl⟩ := List.mem_map.mp h
  exact List.length_map ..

/-- The buffer of a channel holds that channel's output of each tick. -/
theorem channelBuffers_getElem? {c : Config} {us : List State} {u : State} {k : Nat} {ch : Fin 8}
    (hu : us[k]? = some u) (hcfg : u.cfg = c) (hch : ch.val < c.numCh) :
    ((channelBuffers c (us.map State.outputs))[ch.val]?.bind fun b => b[k]?) = some u.y[ch] := by
  have hout : u.outputs.getD ch.val 0#16 = u.y[ch] := outputs_getD (hcfg ▸ hch)
  simp only [channelBuffers, List.getElem?_map, List.getElem?_range hch, Option.map_some, Option.bind_some, hu, hout]

/-- Settles O56: IDLE takes the operation, the ticks of the job follow, and at 0 ticks left the buffers are returned. -/
theorem clockAndMixRunsItsTicks : Obligations.ClockAndMixRunsItsTicks := by
  intro s n rest hlegal htakes
  have ⟨hphase, hclock, _⟩ := htakes
  have hframe := afterTick_iterate_frame n (s.withHostOps rest)
  have hnone : (afterTick^[n] (s.withHostOps rest)).withClock none = afterTick^[n] (s.withHostOps rest) := by
    rw [hframe, ← hclock]; rfl
  have hreturns : (afterTick^[n] (s.withHostOps rest)).returns = s.returns := by rw [hframe]; rfl
  have hstart : step s = .next ((s.withHostOps rest).withClock (some ⟨n, [], []⟩)) :=
    step_of_stepsTo (.clockAndMix n rest htakes (Int.natCast_nonneg n))
  have hwalk := walk_clock (s := s.withHostOps rest) hlegal hphase n
  rw [hnone] at hwalk
  refine ⟨afterTick^[n] (s.withHostOps rest), (tickStates n (s.withHostOps rest)).map State.master,
    channelBuffers s.cfg ((tickStates n (s.withHostOps rest)).map State.outputs), repeatOut_tick_eq_iterate n _,
    run_of_repeatOut_step ?_, ?_, length_channelBuffers _ _, ?_, ?_⟩
  · rw [repeatOut_succ_of_next hstart, ← hreturns]
    exact hwalk
  · rw [List.length_map, length_tickStates]
  · intro b hb
    rw [length_of_mem_channelBuffers hb, List.length_map, length_tickStates]
  · intro k hk
    have hstate := tickStates_getElem? hk (s.withHostOps rest)
    have hcfg : (afterTick^[k + 1] (s.withHostOps rest)).cfg = s.cfg := by rw [afterTick_iterate_frame]; rfl
    exact ⟨_, repeatOut_tick_eq_iterate (k + 1) _, by rw [List.getElem?_map, hstate]; rfl,
      fun ch hch => channelBuffers_getElem? hstate hcfg hch⟩

end Sys2Proof.Machine
end

section
/-! Mute flags and DAC answers: one step of the block against the same step with other mute flags and another DAC port
behind it (R205, R217, R238). -/

namespace Sys2Proof.Machine

/-! ### Other mute flags and another DAC port -/

/-- The block with the mute flags `m` and the DAC port `port` behind it. -/
def State.behind (m : Vector Bool 8) (port : DacPort) (s : State) : State :=
  { s with mute := m, cfg := { s.cfg with dacPort := port } }

section
variable {m : Vector Bool 8} {port : DacPort}

theorem aside_behind : Aside (State.behind m port) := ⟨fun _ => rfl, fun _ _ _ _ _ => rfl⟩

theorem drainSlot_behind : Carries (State.behind m port) drainSlot := aside_behind.drainSlot fun _ _ => rfl

theorem continueClock_behind (j : ClockJob) (s : State) :
    continueClock j (s.behind m port) = (continueClock j s).behind m port := by
  unfold continueClock; split <;> rfl

theorem enqueue_behind (c : Command) (s : State) : enqueue c (s.behind m port) = (enqueue c s).behind m port := by
  unfold enqueue
  rw [apply_ite (State.behind m port)]
  rfl

/-- Handing over a sample leaves the number of ticks to go (R214). -/
theorem deliver_remaining (s : State) :
    (deliver s).clock.map ClockJob.remaining = s.clock.map ClockJob.remaining := by
  cases h : s.clock with
  | none => rw [deliver_of_none h]; exact congrArg _ h
  | some j => rw [deliver_of_some h]; rfl

/-- A `Tick` returns its sample (R213). -/
theorem deliver_returns_of_none {s : State} (h : s.clock = none) :
    (deliver s).returns = .sample s.master s.outputs :: s.returns := by
  rw [deliver_of_none h]; rfl

/-- A `ClockAndMix` in progress keeps the sample (R214). -/
theorem deliver_returns_of_some {s : State} {j : ClockJob} (h : s.clock = some j) :
    (deliver s).returns = s.returns := by
  rw [deliver_of_some h]; rfl

/-- The mute flags after a reset: kept, or for a channel that exists, cleared whatever they were (R290). -/
theorem resetMute_alike (p : Bool) (s : State) (c : Fin 8) :
    ((resetMute p s)[c] = s.mute[c] ∧ (resetMute p (s.behind m port))[c] = m[c]) ∨
      (resetMute p (s.behind m port))[c] = (resetMute p s)[c] := by
  cases p with
  | true => exact .inl ⟨rfl, rfl⟩
  | false =>
    have hch : (s.behind m port).hasCh c.val = s.hasCh c.val := rfl
    have hmute : (s.behind m port).mute = m := rfl
    cases h : s.hasCh c.val with
    | true => exact .inr (by simp [resetMute, hch, h])
    | false => exact .inl ⟨by simp [resetMute, h], by simp [resetMute, hch, hmute, h]⟩

/-- A flag that `SetMuted` writes is written alike, any other is left (R217). -/
theorem set_alike (f : Vector Bool 8) (ch c : Fin 8) (b : Bool) :
    ((f.set ch b)[c] = f[c] ∧ (m.set ch b)[c] = m[c]) ∨ (m.set ch b)[c] = (f.set ch b)[c] := by
  by_cases h : ch = c
  · exact .inr (by simp [h])
  · have hne : ch.val ≠ c.val := fun e => h (Fin.ext e)
    exact .inl ⟨by simp [hne], by simp [hne]⟩

/-! ### Two steps compared -/

/-- Where a step from `s` leaves `t`, a step from `s` with mute flags `m` and DAC port `port` may leave `t'`. -/
structure AlikeButOutputs (m : Vector Bool 8) (port : DacPort) (s t t' : State) : Prop where
  frame : t' = { t with cfg := { t.cfg with dacPort := port }, mute := t'.mute, y := t'.y, master := t'.master,
                        clock := t'.clock, returns := t'.returns }
  mutes : ∀ c : Fin 8, (t.mute[c] = s.mute[c] ∧ t'.mute[c] = m[c]) ∨ t'.mute[c] = t.mute[c]
  outside : s.phase ≠ .mix → t'.y = t.y ∧ t'.master = t.master ∧ t'.clock = t.clock ∧ t'.returns = t.returns
  remaining : t'.clock.map ClockJob.remaining = t.clock.map ClockJob.remaining
  samples : t'.returns = t.returns ∨ ∃ a b a' b', t.returns = .sample a b :: s.returns ∧
    t'.returns = .sample a' b' :: s.returns

/-- A step that leaves the mute flags, and leaves the same state with the others behind the block, is alike. -/
theorem alike_of_behind {s t t' : State} (ht' : t' = t.behind m port) (hmute : t.mute = s.mute) :
    AlikeButOutputs m port s t t' := by
  subst ht'
  exact ⟨rfl, fun c => .inl ⟨by rw [hmute], rfl⟩, fun _ => ⟨rfl, rfl, rfl, rfl⟩, rfl, .inl rfl⟩

/-- In MIX the outputs and the sample may differ, and nothing else (R238). -/
theorem alike_of_mix {s : State} (hphase : s.phase = .mix) :
    AlikeButOutputs m port s (deliver (mix (s.withPhase .idle)))
      (deliver (mix ((s.behind m port).withPhase .idle))) where
  frame := by rw [deliver_frame, deliver_frame (mix (s.withPhase .idle))]; rfl
  mutes := fun c => .inl ⟨by rw [deliver_frame]; rfl, by rw [deliver_frame]; rfl⟩
  outside := fun h => absurd hphase h
  remaining := by rw [deliver_remaining, deliver_remaining]; rfl
  samples := by
    cases hclock : s.clock with
    | none => exact .inr ⟨_, _, _, _, deliver_returns_of_none hclock, deliver_returns_of_none hclock⟩
    | some j =>
      have hkept := deliver_returns_of_some (s := mix (s.withPhase .idle)) hclock
      have hkept' := deliver_returns_of_some (s := mix ((s.behind m port).withPhase .idle)) hclock
      exact .inl (hkept'.trans hkept.symm)

/-- Each case of a step is the same case with other mute flags and another DAC port, and leaves a state alike. -/
theorem stepsTo_behind {s t : State} (h : StepsTo s t) :
    ∃ t', StepsTo (s.behind m port) t' ∧ AlikeButOutputs m port s t t' := by
  cases h with
  | wait hphase hclock hops => exact ⟨_, .wait hphase hclock hops, alike_of_behind rfl rfl⟩
  | clock j hphase hclock =>
    exact ⟨_, .clock j hphase hclock, alike_of_behind (continueClock_behind j s) (by rw [continueClock_frame])⟩
  | enqueue a v rest htakes hrange =>
    exact ⟨_, .enqueue a v rest htakes hrange,
      alike_of_behind (enqueue_behind _ (s.withHostOps rest)) (by rw [enqueue_frame]; rfl)⟩
  | queueStatus rest htakes => exact ⟨_, .queueStatus rest htakes, alike_of_behind rfl rfl⟩
  | tick rest htakes => exact ⟨_, .tick rest htakes, alike_of_behind rfl rfl⟩
  | clockAndMix n rest htakes hrange => exact ⟨_, .clockAndMix n rest htakes hrange, alike_of_behind rfl rfl⟩
  | setMuted ch b rest htakes hrange =>
    exact ⟨_, .setMuted ch b rest htakes hrange,
      ⟨rfl, fun c => set_alike s.mute _ c _, fun _ => ⟨rfl, rfl, rfl, rfl⟩, rfl, .inl rfl⟩⟩
  | reset p rest htakes =>
    exact ⟨_, .reset p rest htakes,
      ⟨rfl, fun c => resetMute_alike p s c, fun _ => ⟨rfl, rfl, rfl, rfl⟩, rfl, .inl rfl⟩⟩
  | drain j hphase hslot =>
    exact ⟨_, .drain j hphase (drainSlot_behind hslot), alike_of_behind rfl (by rw [drainSlot_frame hslot]; rfl)⟩
  | step n hphase =>
    have hstep := (aside_behind (m := m) (port := port)).internalStep (s.withPhase (afterStep s.cfg n))
    exact ⟨_, .step n hphase, alike_of_behind hstep (by rw [internalStep_frame]; rfl)⟩
  | mix hphase => exact ⟨_, .mix hphase, alike_of_mix hphase⟩

end

/-- Settles O54. -/
theorem mutesAndDacAnswersReachOutputsOnly : Obligations.MutesAndDacAnswersReachOutputsOnly := by
  intro s t m port h
  obtain ⟨t', hstep, halike⟩ := stepsTo_behind (m := m) (port := port) (step_cases h)
  exact ⟨t', step_of_stepsTo hstep, halike.frame, halike.mutes, halike.outside, halike.remaining, halike.samples⟩

end Sys2Proof.Machine
end

section
/-! The volume path and the mix: the zero-cross gate over a run of waveform values (R233 to R235), on a stopped channel
(R237), the attenuation and the gain table (R230, R232), the outputs of the mix and their sum (R238 to R240). -/

namespace Sys2Proof.Machine

/-! ### The zero window (R233) -/

theorem outsideWindow_of_lt {c : Config} {w : Wave} (h : c.zcTol.toNat < w.toNat) : outsideWindow c w = true :=
  decide_eq_true h

theorem outsideWindow_of_le {c : Config} {w : Wave} (h : w.toNat ≤ c.zcTol.toNat) : outsideWindow c w = false :=
  decide_eq_false (Nat.not_lt.mpr h)

/-! ### The zero-cross gate (R234, R235) -/

/-- Settles O33. -/
theorem zeroCrossGate : Obligations.ZeroCrossGate := by
  intro c p
  refine ⟨fun hout => ?_, fun hin harmed => ?_, fun hin harmed hnothing => ?_, fun hin harmed hpending => ?_⟩
  · exact zcUpdate_outside c p (outsideWindow_of_lt hout)
  · exact zcUpdate_unarmed c p (outsideWindow_of_le hin) harmed
  · exact zcUpdate_crossing c p (outsideWindow_of_le hin) harmed hnothing
  · exact zcUpdate_commit c p (outsideWindow_of_le hin) harmed hpending

/-- An entry into the window takes the pending code, if there is one, and leaves none. -/
theorem zcUpdate_entry {c : Config} {p : VolumePath} (hin : outsideWindow c p.w = false) (harmed : p.armed = true) :
    (zcUpdate c p).vol = (if p.pvalid = true then p.pvol else p.vol) ∧ (zcUpdate c p).pvalid = false := by
  cases hv : p.pvalid with
  | true => rw [zcUpdate_commit c p hin harmed hv]; exact ⟨rfl, rfl⟩
  | false => rw [zcUpdate_crossing c p hin harmed hv]; exact ⟨rfl, hv⟩

/-- The gate does nothing where `armed` already agrees with the waveform value (log 16). -/
theorem zcUpdate_of_armed_eq {c : Config} {p : VolumePath} (h : p.armed = outsideWindow c p.w) : zcUpdate c p = p := by
  cases hout : outsideWindow c p.w with
  | true => rw [zcUpdate_outside c p hout, ← hout, ← h]
  | false => exact zcUpdate_unarmed c p hout (h.trans hout)

theorem gateAll_cons (c : Config) (w : Wave) (ws : List Wave) (p : VolumePath) :
    gateAll c (w :: ws) p = gateAll c ws (zcUpdate c { p with w := w }) := rfl

theorem gateAll_append (c : Config) (ws vs : List Wave) (p : VolumePath) :
    gateAll c (ws ++ vs) p = gateAll c vs (gateAll c ws p) := List.foldl_append

/-- Within the window, once entered, the gate only follows the waveform value. -/
theorem gateAll_inside {c : Config} {ws : List Wave} {p : VolumePath} (harmed : p.armed = false)
    (hin : ∀ w ∈ ws, w.toNat ≤ c.zcTol.toNat) : gateAll c ws p = { p with w := (gateAll c ws p).w } := by
  induction ws generalizing p with
  | nil => rfl
  | cons w ws ih =>
    obtain ⟨hw, hws⟩ := List.forall_mem_cons.mp hin
    rw [gateAll_cons, zcUpdate_unarmed c { p with w := w } (outsideWindow_of_le hw) harmed]
    exact ih harmed hws

/-- A value outside the window arms the gate and commits nothing. -/
theorem gateAll_leaving {c : Config} {ws : List Wave} {p : VolumePath} {w : Wave} (harmed : p.armed = false)
    (hin : ∀ w ∈ ws, w.toNat ≤ c.zcTol.toNat) (hout : c.zcTol.toNat < w.toNat) :
    gateAll c (ws ++ [w]) p = { p with w := w, armed := true } := by
  rw [gateAll_append, gateAll_inside harmed hin]
  exact zcUpdate_outside c { p with w := w } (outsideWindow_of_lt hout)

/-- Settles O34: the gate stands armed, with the codes it began with, when the waveform comes back. -/
theorem oneCommitPerCrossing : Obligations.OneCommitPerCrossing := by
  intro c p ws harmed hin
  refine ⟨?_, fun w₁ w₂ hout hback => ?_⟩
  · rw [gateAll_inside harmed hin]
    exact ⟨rfl, rfl, rfl, harmed⟩
  · have hleaving := gateAll_leaving harmed hin hout
    have hentry : gateAll c (ws ++ [w₁, w₂]) p = zcUpdate c { p with w := w₂, armed := true } := by
      rw [List.append_cons, gateAll_append, hleaving]; rfl
    rw [hleaving, hentry]
    exact ⟨rfl, zcUpdate_entry (outsideWindow_of_le hback) rfl⟩

/-! ### A stopped channel (R237) -/

theorem ddsAdvance_stopped {d : DdsChannel} (h : d.freq = 0#28) : ddsAdvance d = d := by
  have hadd : ∀ a : Phase28, a + d.freq = a := by simp [h]
  by_cases hwave : d.wave = .pwm
  · rw [ddsAdvance_pwm hwave, hadd]
  · rw [ddsAdvance_of_ne_pwm hwave, hadd]

/-- A stopped channel whose gate has seen its waveform value is a fixed point of the clock step. -/
theorem ddsStep_stopped {c : Config} {d : DdsChannel} (hfreq : d.freq = 0#28) (hw : d.w = waveMux c d)
    (harmed : d.armed = outsideWindow c d.w) : ddsStep c d = d := by
  have hgate : zcUpdate c d.toVolumePath = d.toVolumePath := zcUpdate_of_armed_eq harmed
  calc ddsStep c d = d.modifyPath fun p => zcUpdate c { p with w := waveMux c d } := by
        rw [ddsStep, ddsAdvance_stopped hfreq]
    _ = { d with toVolumePath := zcUpdate c d.toVolumePath } := by rw [← hw]; rfl
    _ = d := by rw [hgate]

/-- Settles O24. -/
theorem stoppedChannelNeverCommits : Obligations.StoppedChannelNeverCommits := fun _ _ n hfreq hw harmed =>
  Function.iterate_fixed (ddsStep_stopped hfreq hw harmed) n

/-! ### The gain table (R230, R262) -/

theorem getD_of_forall_mem {α : Type} {P : α → Prop} {l : List α} {d : α} (hd : P d) (hl : ∀ x ∈ l, P x) (n : Nat) :
    P (l.getD n d) := by
  obtain hlt | hle := Nat.lt_or_ge n l.length
  · rw [List.getD_eq_getElem l d hlt]; exact hl _ (List.getElem_mem hlt)
  · rw [List.getD_eq_default l d hle]; exact hd

theorem rowEntry_le {rows : List (List Nat)} {b : Nat} (h : ∀ row ∈ rows, ∀ x ∈ row, x ≤ b) (n : Nat) :
    rowEntry rows n ≤ b :=
  have hrow : ∀ x ∈ rows.getD (n / 16) [], x ≤ b :=
    getD_of_forall_mem (P := fun row : List Nat => ∀ x ∈ row, x ≤ b) (by simp) h (n / 16)
  getD_of_forall_mem (P := (· ≤ b)) (Nat.zero_le b) hrow (n % 16)

theorem gainRows_le : ∀ row ∈ gainRows, ∀ x ∈ row, x ≤ 65536 := by decide

theorem legal_gainsInRange {c : Config} (h : c.legal = true) : Config.gainsInRange c.gainLut = true := by
  simp only [Config.legal, Bool.and_eq_true] at h
  obtain ⟨⟨⟨⟨⟨⟨_, hgains⟩, _⟩, _⟩, _⟩, _⟩, _⟩ := h
  exact hgains

/-- No gain of a legal configuration is above unity (R6, R262). -/
theorem gainAt_le {c : Config} (h : c.legal = true) (v : Vol) : (gainAt c v).toNat ≤ 65536 := by
  have hrange := legal_gainsInRange h
  unfold gainAt
  cases hlut : c.gainLut with
  | listed =>
    rw [BitVec.toNat_ofNat]
    exact (Nat.mod_le ..).trans (rowEntry_le gainRows_le v.toNat)
  | entries l =>
    rw [hlut] at hrange
    have hall : ∀ g ∈ l, g.toNat ≤ 65536 := by simpa [Config.gainsInRange] using hrange
    exact getD_of_forall_mem (P := fun g : Gain => g.toNat ≤ 65536) (by decide) hall v.toNat

theorem gainAt_listed_unity {c : Config} (h : c.gainLut = .listed) : gainAt c 255#8 = 65536#17 := by
  rw [gainAt, h]; decide

theorem gainAt_listed_silence {c : Config} (h : c.gainLut = .listed) : gainAt c 0#8 = 0#17 := by
  rw [gainAt, h]; decide

/-! ### The attenuation (R232) -/

theorem mul_gain_le {c : Config} (h : c.legal = true) (p : VolumePath) :
    p.w.toNat * (gainAt c p.vol).toNat ≤ 1023 * 65536 :=
  Nat.mul_le_mul (Nat.le_of_lt_succ p.w.isLt) (gainAt_le h p.vol)

/-- With gains in range the 10-bit output holds the whole shifted product. -/
theorem attenuate_toNat {c : Config} (h : c.legal = true) (p : VolumePath) :
    (attenuate c p).toNat = p.w.toNat * (gainAt c p.vol).toNat / 65536 := by
  have hle := mul_gain_le h p
  rw [attenuate, BitVec.toNat_ofNat, Nat.shiftRight_eq_div_pow, Nat.mod_eq_of_lt (by omega)]

/-- Settles O35. -/
theorem volumeMultiplier : Obligations.VolumeMultiplier := by
  intro c p hlegal
  have hval := attenuate_toNat hlegal p
  refine ⟨hval, (mul_gain_le hlegal p).trans_lt (by decide), Nat.le_of_lt_succ (BitVec.isLt _), fun hlut hvol => ?unity,
    fun hlut hvol => ?silence, fun hw => ?zero⟩
  all_goals refine BitVec.eq_of_toNat_eq (hval.trans ?_)
  case unity => rw [hvol, gainAt_listed_unity hlut]; exact Nat.mul_div_cancel _ (by decide)
  case silence => rw [hvol, gainAt_listed_silence hlut]; exact Nat.zero_div _
  case zero => rw [hw]; simp

/-! ### The DAC term (R240) -/

/-- Settles O36: the quotient by 4 rounds the same way under both divisions. -/
theorem dacTermCentresAndScales : Obligations.DacTermCentresAndScales := fun d =>
  ⟨(dacTerm_eq_div d).trans (Int.fdiv_eq_ediv_of_nonneg _ (by decide)).symm, dacTerm_bounds d⟩

/-! ### The outputs of the mix (R238) -/

/-- A waveform value is not negative as an Int16 (R35). -/
theorem sample_of_wave_toInt (w : Wave) : (w.setWidth 16).toInt = w.toNat := by
  rw [BitVec.toInt_setWidth, Int.bmod_eq_of_le] <;> omega

theorem channelOutput_dds {s : State} {ch : Fin 8} {i : Fin 4} (h : ch.val = i.val) :
    (channelOutput s ch).toInt = (attenuate s.cfg s.dds[i].toVolumePath).toNat := by
  obtain ⟨ch, hlt⟩ := ch
  obtain rfl : ch = i.val := h
  rw [channelOutput, dif_pos i.isLt]
  exact sample_of_wave_toInt _

theorem channelOutput_noise {s : State} {ch : Fin 8} (h : ch.val = 4) :
    (channelOutput s ch).toInt = (attenuate s.cfg s.nz.toVolumePath).toNat := by
  rw [channelOutput, dif_neg (by omega), if_pos h]
  exact sample_of_wave_toInt _

theorem channelOutput_dac {s : State} {ch : Fin 8} {k : Fin 3} (h : ch.val = 5 + k.val) :
    (channelOutput s ch).toInt = dacTerm (dacOut s k) := by
  have hk : Fin.ofNat 3 (ch.val - 5) = k := by ext; simp only [Fin.val_ofNat]; omega
  obtain ⟨hlo, hhi⟩ := dacTerm_bounds (dacOut s k)
  rw [channelOutput, dif_neg (by omega), if_neg (by omega), hk, sample_toInt_ofInt (by omega) (by omega)]

theorem mix_y_muted {s : State} {ch : Fin 8} (hch : ch.val < s.cfg.numCh) (h : s.mute[ch] = true) :
    (mix s).y[ch] = 0#16 :=
  (mixOutputs_get s ch).trans ((if_pos (decide_eq_true hch)).trans (if_pos h))

theorem mix_y_unmuted {s : State} {ch : Fin 8} (hch : ch.val < s.cfg.numCh) (h : s.mute[ch] = false) :
    (mix s).y[ch] = channelOutput s ch :=
  (mixOutputs_get s ch).trans ((if_pos (decide_eq_true hch)).trans (if_neg (by simp [h])))

theorem outputOk_mix {s : State} {ch : Fin 8} (hch : ch.val < s.cfg.numCh) : outputOk ch.val (mix s).y[ch] := by
  cases hmute : s.mute[ch] with
  | true => rw [mix_y_muted hch hmute]; exact outputOk_zero ch.val
  | false => rw [mix_y_unmuted hch hmute]; exact outputOk_channelOutput s ch

/-! ### The sum of the outputs (R239) -/

theorem sumOutputs_succ {n : Nat} (hn : n < 8) (y : Vector Sample 8) :
    sumOutputs (n + 1) y = sumOutputs n y + y[n].toInt := by
  have hlt : n < y.toList.length := by simpa using hn
  simp [sumOutputs, List.take_succ_eq_append_getElem hlt]

/-- The range of a sum from the ranges of its channels: the first five give waveform values, the others DAC terms. -/
theorem sumOutputs_range {n : Nat} (hn : n ≤ 8) {y : Vector Sample 8}
    (hy : ∀ ch : Fin 8, ch.val < n → outputOk ch.val y[ch]) :
    -512 * ((n - 5 : Nat) : Int) ≤ sumOutputs n y ∧
      sumOutputs n y ≤ 1023 * ((min n 5 : Nat) : Int) + 512 * ((n - 5 : Nat) : Int) := by
  induction n with
  | zero => simp [sumOutputs]
  | succ n ih =>
    obtain ⟨hlo, hhi⟩ := ih (by omega) fun ch hch => hy ch (by omega)
    have hlast : outputOk n y[n] := hy ⟨n, hn⟩ (Nat.lt_succ_self n)
    rw [sumOutputs_succ hn]
    unfold outputOk at hlast
    split at hlast <;> omega

theorem sumOutputs_mix_range (s : State) :
    -512 * (s.cfg.numDac.num : Int) ≤ sumOutputs s.cfg.numCh (mix s).y ∧
      sumOutputs s.cfg.numCh (mix s).y ≤ 5 * 1023 + 512 * (s.cfg.numDac.num : Int) := by
  have hcount : s.cfg.numCh = 5 + s.cfg.numDac.num := rfl
  have hrange := sumOutputs_range (numCh_le s.cfg) fun ch hch => outputOk_mix (s := s) hch
  omega

/-- The sum does not wrap in `master`. -/
theorem mix_master_toInt (s : State) : (mix s).master.toInt = sumOutputs s.cfg.numCh (mix s).y := by
  have hcount : 5 + s.cfg.numDac.num ≤ 8 := numCh_le s.cfg
  obtain ⟨hlo, hhi⟩ := sumOutputs_mix_range s
  exact sample_toInt_ofInt (z := sumOutputs s.cfg.numCh (mix s).y) (by omega) (by omega)

/-- Settles O38. -/
theorem masterIsTheExactSum : Obligations.MasterIsTheExactSum := by
  intro s
  rw [mix_master_toInt]
  exact ⟨rfl, sumOutputs_mix_range s⟩

/-- Settles O37. -/
theorem mixOutputsOfEachChannel : Obligations.MixOutputsOfEachChannel := by
  intro s
  refine ⟨mix_frame s, mix_master_toInt s, fun ch hch => ⟨mix_y_muted hch, fun hmute => ?_, fun hwave => ?_⟩⟩
  · rw [mix_y_unmuted hch hmute]
    exact ⟨fun _ => channelOutput_dds, channelOutput_noise, fun _ => channelOutput_dac⟩
  · have hok := outputOk_mix hch
    rwa [outputOk, if_pos hwave] at hok

end Sys2Proof.Machine
end

section
/-! The events (R271, R272; log 18): the case of R271 behind each tag, the commands that meet it, and its outcome. -/

namespace Sys2Proof.Machine

/-! ### Commands by address (R81, R89) -/

/-- `decode` reads an instruction exactly from its encoding, where its unit exists (R89). -/
theorem decode_eq_instr_iff {c : Config} {m : Command} {i : Instr} :
    decode c m = .instr i ↔ encode i = m ∧ i.wellFormed c = true :=
  ⟨decodedCommandIsItsEncoding c m i, fun ⟨henc, hwf⟩ => henc ▸ decode_encode hwf⟩

/-- The addresses with command type `cmd` of some DDS channel (R81, R83). -/
theorem exists_ddsAddr_iff (a : Addr) (cmd : CmdType) :
    (∃ n : Fin 4, addrMake (BitVec.ofNat 4 n.val) cmd = a) ↔ a.toNat / 16 ≤ 3 ∧ a.toNat % 16 = cmd.toNat := by
  have hcmd := cmd.isLt
  constructor
  · rintro ⟨n, rfl⟩
    rw [ddsAddr_toNat]
    omega
  · rintro ⟨hch, hlow⟩
    refine ⟨⟨a.toNat / 16, by omega⟩, BitVec.eq_of_toNat_eq ?_⟩
    rw [ddsAddr_toNat, ← hlow]
    exact Nat.div_add_mod' a.toNat 16

/-! ### The cases of R271 -/

/-- The cases of R271 that an instruction can meet, each with its event (R272). -/
inductive InstrCase (s : State) : Instr → Event → Prop
  /-- DDS.WAVE with a code that names no waveform. -/
  | wave (n : Fin 4) {v : Value} (h : 5 < v.toNat) : InstrCase s (.ddsWave n v) .evWaveIgnored
  /-- NZ.SEED with the seed 0. -/
  | seed {v : Value} (h : v.toNat % 2 ^ 23 = 0) : InstrCase s (.nzSeed v) .evSeedCoerced
  /-- NZ.FREQ in internal-clock mode. -/
  | freq (v : Value) (h : s.nz.intclk = true) : InstrCase s (.nzFreq v) .evNzFreqIgnored

/-- The field of NZ.SEED is 0 exactly for the multiples of 2^23 (R86). -/
theorem seedBits_eq_zero_iff (v : Value) : v.extractLsb' 0 23 = 0#23 ↔ v.toNat % 2 ^ 23 = 0 := by
  rw [← BitVec.toNat_inj, BitVec.extractLsb'_toNat, Nat.shiftRight_zero, BitVec.toNat_ofNat, Nat.zero_mod]

theorem instrEvent_eq_some_iff {s : State} {i : Instr} {e : Event} : instrEvent s i = some e ↔ InstrCase s i e := by
  constructor
  · intro h
    cases i with
    | ddsWave n v =>
      obtain ⟨hcode, ⟨⟩⟩ := Option.ite_none_right_eq_some.mp h
      exact .wave n ((waveformOfCode_eq_none_iff _).mp (Option.isNone_iff_eq_none.mp hcode))
    | nzSeed v =>
      obtain ⟨hseed, ⟨⟩⟩ := Option.ite_none_right_eq_some.mp h
      exact .seed ((seedBits_eq_zero_iff v).mp hseed)
    | nzFreq v =>
      obtain ⟨hclk, ⟨⟩⟩ := Option.ite_none_right_eq_some.mp h
      exact .freq v hclk
    | ddsFreq | ddsPw | ddsVol | ddsZcen | nzClk | nzVol | nzZcen | dacFwd | prtFreq | prtMask | prtEn => cases h
  · intro hcase
    cases hcase with
    | wave n hcode => exact if_pos (Option.isNone_iff_eq_none.mpr ((waveformOfCode_eq_none_iff _).mpr hcode))
    | seed hseed => exact if_pos ((seedBits_eq_zero_iff _).mpr hseed)
    | freq v hclk => exact if_pos hclk

/-- A tagged command is an instruction in a case of R271, or its address is Ignored. -/
theorem commandEvent_eq_some_iff {s : State} {m : Command} {e : Event} :
    commandEvent s m = some e ↔
      (∃ i, decode s.cfg m = .instr i ∧ InstrCase s i e) ∨
        (∃ why, decode s.cfg m = .ignored why) ∧ e = .evAddrIgnored := by
  rw [commandEvent]
  cases decode s.cfg m with
  | instr i => simp [instrEvent_eq_some_iff]
  | ignored why => simp [eq_comm]

/-! ### Which commands have which tag -/

theorem commandEvent_addrIgnored_iff {s : State} {m : Command} :
    commandEvent s m = some .evAddrIgnored ↔ ∃ why, decode s.cfg m = .ignored why := by
  refine commandEvent_eq_some_iff.trans ⟨?_, fun hwhy => .inr ⟨hwhy, rfl⟩⟩
  rintro (⟨i, -, hcase⟩ | ⟨hwhy, -⟩)
  · cases hcase
  · exact hwhy

/-- The other tags are those of instructions. -/
theorem commandEvent_instr_iff {s : State} {m : Command} {e : Event} (he : e ≠ .evAddrIgnored) :
    commandEvent s m = some e ↔ ∃ i, encode i = m ∧ i.wellFormed s.cfg = true ∧ InstrCase s i e := by
  simp only [commandEvent_eq_some_iff, decode_eq_instr_iff, he, and_false, or_false, and_assoc]

theorem commandEvent_waveIgnored_iff {s : State} {m : Command} :
    commandEvent s m = some .evWaveIgnored ↔
      m.addr.toNat / 16 ≤ 3 ∧ m.addr.toNat % 16 = 1 ∧ 5 < m.value.toNat := by
  rw [commandEvent_instr_iff (e := .evWaveIgnored) nofun, ← and_assoc]
  refine Iff.trans ⟨?_, ?_⟩ (and_congr_left' (exists_ddsAddr_iff m.addr 1#4))
  · rintro ⟨i, rfl, -, hcase⟩
    cases hcase with
    | wave n hcode => exact ⟨⟨n, rfl⟩, hcode⟩
  · rintro ⟨⟨n, hn⟩, hcode⟩
    exact ⟨.ddsWave n m.value, congrArg (Command.mk · m.value) hn, rfl, .wave n hcode⟩

theorem commandEvent_seedCoerced_iff {s : State} {m : Command} :
    commandEvent s m = some .evSeedCoerced ↔ m.addr.toNat = 0x42 ∧ m.value.toNat % 2 ^ 23 = 0 := by
  refine (commandEvent_instr_iff (e := .evSeedCoerced) nofun).trans ⟨?_, ?_⟩
  · rintro ⟨i, rfl, -, hcase⟩
    cases hcase with
    | seed hseed => exact ⟨rfl, hseed⟩
  · rintro ⟨haddr, hseed⟩
    have haddr : 0x42#8 = m.addr := BitVec.eq_of_toNat_eq haddr.symm
    exact ⟨.nzSeed m.value, congrArg (Command.mk · m.value) haddr, rfl, .seed hseed⟩

theorem commandEvent_nzFreqIgnored_iff {s : State} {m : Command} :
    commandEvent s m = some .evNzFreqIgnored ↔ m.addr.toNat = 0x40 ∧ s.nz.intclk = true := by
  refine (commandEvent_instr_iff (e := .evNzFreqIgnored) nofun).trans ⟨?_, ?_⟩
  · rintro ⟨i, rfl, -, hcase⟩
    cases hcase with
    | freq v hclk => exact ⟨rfl, hclk⟩
  · rintro ⟨haddr, hclk⟩
    have haddr : 0x40#8 = m.addr := BitVec.eq_of_toNat_eq haddr.symm
    exact ⟨.nzFreq m.value, congrArg (Command.mk · m.value) haddr, rfl, .freq m.value hclk⟩

theorem commandEvent_ne_queueDrop (s : State) (m : Command) : commandEvent s m ≠ some .evQueueDrop := by
  intro h
  obtain ⟨i, -, -, hcase⟩ := (commandEvent_instr_iff (e := .evQueueDrop) nofun).mp h
  cases hcase

theorem enqueueEvent_queueDrop_iff (s : State) :
    enqueueEvent s = some .evQueueDrop ↔ s.cfg.queueDepth ≤ s.queue.length := by
  rw [enqueueEvent, Option.ite_none_left_eq_some, Nat.not_lt, and_iff_left rfl]

theorem enqueueEvent_eq_none_iff (s : State) : enqueueEvent s = none ↔ s.queue.length < s.cfg.queueDepth := by
  simp only [enqueueEvent, ite_eq_left_iff, reduceCtorEq, imp_false, not_not]

/-! ### What each outcome is (R271) -/

theorem seedField_coerced {v : Value} (h : v.toNat % 2 ^ 23 = 0) : seedField v = 1#23 :=
  if_pos ((seedBits_eq_zero_iff v).mpr h)

/-- In every case of R271 but the coerced seed, the instruction is lost. -/
theorem InstrCase.exec_ignored {s : State} {i : Instr} {e : Event} (h : InstrCase s i e) (he : e ≠ .evSeedCoerced) :
    exec i s = .next s := by
  cases h with
  | wave n hcode => simp only [exec, execDdsWave, (waveformOfCode_eq_none_iff _).mpr hcode]
  | seed => exact absurd rfl he
  | freq v hclk => exact congrArg Host.Outcome.next (if_pos hclk)

theorem dispatch_ignored_of_event {s : State} {m : Command} {e : Event} (h : commandEvent s m = some e)
    (he : e ≠ .evSeedCoerced) : dispatch m s = .next s := by
  obtain ⟨i, hdec, hcase⟩ | ⟨⟨why, hdec⟩, -⟩ := commandEvent_eq_some_iff.mp h
  · exact (dispatch_instr hdec).trans (hcase.exec_ignored he)
  · exact dispatch_ignored hdec

theorem dispatch_seedCoerced {s : State} {m : Command} (h : commandEvent s m = some .evSeedCoerced) :
    dispatch m s = .next { s with nz := { s.nz with lfsr := 1#23, reload := 1#23 } } := by
  obtain ⟨i, hdec, hcase⟩ | ⟨-, he⟩ := commandEvent_eq_some_iff.mp h
  · cases hcase with
    | seed hseed =>
      rw [dispatch_instr hdec]
      simp only [exec, execNzSeed, seedField_coerced hseed]
      rfl
  · cases he

theorem enqueue_full {s : State} (h : s.cfg.queueDepth ≤ s.queue.length) (m : Command) :
    enqueue m s = { s with qOvf := true, returns := .accepted false :: s.returns } :=
  if_neg (Nat.not_lt_of_le h)

/-- Settles O20. -/
theorem eventsNameTheirOutcomes : Obligations.EventsNameTheirOutcomes := fun s m =>
  ⟨commandEvent_addrIgnored_iff.trans (ignoredAddresses s.cfg m), commandEvent_waveIgnored_iff,
    commandEvent_seedCoerced_iff, commandEvent_nzFreqIgnored_iff, commandEvent_ne_queueDrop s m,
    enqueueEvent_queueDrop_iff s, enqueueEvent_eq_none_iff s, fun _ => dispatch_ignored_of_event, dispatch_seedCoerced,
    fun hdrop => enqueue_full ((enqueueEvent_queueDrop_iff s).mp hdrop) m⟩

end Sys2Proof.Machine
end

section
/-! Reset and power-on (R290 to R293, R295): the fields after a reset place by place, the power-on state as such a state, and
what a second reset changes (log 17). -/

namespace Sys2Proof.Machine

/-! ### `ResetVol` (R291) -/

theorem resetVolume_eq (g : Config) (c : VolumePath) :
    resetVolume g c = if g.resetAppliesPending = true ∧ c.pvalid = true then c.pvol else 255#8 := by
  simp [resetVolume]

theorem resetVolume_eq_full_iff (g : Config) (c : VolumePath) :
    resetVolume g c = 255#8 ↔ (g.resetAppliesPending = true → c.pvalid = true → c.pvol = 255#8) := by
  rw [resetVolume_eq, ite_eq_right_iff, and_imp]

theorem resetVolume_of_not_applied {g : Config} (h : g.resetAppliesPending = false) (c : VolumePath) :
    resetVolume g c = 255#8 :=
  (resetVolume_eq_full_iff g c).mpr fun hg => absurd (h.symm.trans hg) Bool.false_ne_true

theorem resetVolume_of_nothing_pending (g : Config) {c : VolumePath} (h : c.pvalid = false) :
    resetVolume g c = 255#8 :=
  (resetVolume_eq_full_iff g c).mpr fun _ hp => absurd (h.symm.trans hp) Bool.false_ne_true

/-! ### The fields after a reset (R290) -/

theorem hasCh_iff (s : State) (ch : Nat) : s.hasCh ch = true ↔ ch < s.cfg.numCh := decide_eq_true_iff

theorem resetBlock_prt_get (p : Bool) (s : State) (u : Fin 5) :
    (resetBlock p s).prt[u] = if u.val < s.cfg.numPrt.num then PhaseTimer.cleared else s.prt[u] := by
  simp only [resetBlock_prt, State.mapPrt_get, hasPrt_iff]

theorem resetBlock_y_get (p : Bool) (s : State) (ch : Fin 8) :
    (resetBlock p s).y[ch] = if ch.val < s.cfg.numCh then 0#16 else s.y[ch] := by
  have hy : (resetBlock p s).y = resetOutputs s := rfl
  simp only [hy, resetOutputs_get, hasCh_iff]

theorem resetBlock_mute_get (s : State) (ch : Fin 8) :
    (resetBlock false s).mute[ch] = if ch.val < s.cfg.numCh then false else s.mute[ch] := by
  have hmute : (resetBlock false s).mute = resetMute false s := rfl
  simp [hmute, resetMute, hasCh_iff]

theorem resetBlock_dds_eq_full_iff (p : Bool) (s : State) :
    (resetBlock p s).dds = Vector.replicate 4 (DdsChannel.cleared 255#8) ↔
      ∀ i : Fin 4, resetVolume s.cfg s.dds[i].toVolumePath = 255#8 := by
  refine ⟨fun h i => ?_, fun h => Vector.ext fun i hi => ?_⟩
  · have hget := resetBlock_dds p s i
    rw [h, Fin.getElem_fin, Vector.getElem_replicate] at hget
    exact (congrArg (·.vol) hget).symm
  · rw [Vector.getElem_replicate, ← h ⟨i, hi⟩]
    exact resetBlock_dds p s ⟨i, hi⟩

theorem resetBlock_nz_eq_full_iff (p : Bool) (s : State) :
    (resetBlock p s).nz = NoiseChannel.cleared 255#8 ↔ resetVolume s.cfg s.nz.toVolumePath = 255#8 := by
  rw [resetBlock_nz]
  exact ⟨fun h => congrArg (·.vol) h, congrArg NoiseChannel.cleared⟩

/-- Settles O45: the state after a reset is a case of `StepsTo`, read place by place. -/
theorem resetSetsEveryField : Obligations.ResetSetsEveryField := by
  intro s p rest htakes
  refine ⟨_, step_of_stepsTo (.reset p rest htakes), fun i => ?dds, ?nz, fun u hu => ?prt, fun ch hch => ⟨?mute, ?y⟩,
    rfl, rfl, rfl⟩
  case dds => exact (resetBlock_dds p (s.withHostOps rest) i).trans (by rw [resetVolume_eq]; rfl)
  case nz => exact (resetBlock_nz p (s.withHostOps rest)).trans (by rw [resetVolume_eq]; rfl)
  case prt => exact (resetBlock_prt_get p (s.withHostOps rest) u).trans (if_pos hu)
  case mute =>
    cases p with
    | true => rfl
    | false => exact (resetBlock_mute_get (s.withHostOps rest) ch).trans (if_pos hch)
  case y => exact (resetBlock_y_get p (s.withHostOps rest) ch).trans (if_pos hch)

/-! ### Power-on (R293) -/

/-- Settles O59: at power-on each channel is a cleared one and each output is 0. -/
theorem resetHasInvariant : Obligations.ResetHasInvariant where
  legal := by decide
  dds i := by
    simp only [State.reset, Fin.getElem_fin, Vector.getElem_replicate]
    exact pathOk_cleared _ _
  nz := pathOk_cleared _ _
  lfsr := by decide
  reload := by decide
  level := .inl rfl
  queue := Nat.zero_le _
  phase := trivial
  outputs ch := by
    simp only [State.reset, Fin.getElem_fin, Vector.getElem_replicate]
    exact outputOk_zero ch.val
  master := by decide
  absentTimer _ := rfl
  absentChannel _ := ⟨rfl, rfl⟩

/-- Places of which those that exist are written with `a`, and the others hold `a` already, all hold `a`. -/
theorem eq_replicate_of_get {α : Type} {n m : Nat} {v w : Vector α n} {a : α}
    (hget : ∀ i : Fin n, w[i] = if i.val < m then a else v[i]) (habsent : ∀ i : Fin n, m ≤ i.val → v[i] = a) :
    w = Vector.replicate n a := by
  refine Vector.ext fun i hi => ?_
  rw [Vector.getElem_replicate]
  exact (hget ⟨i, hi⟩).trans (ite_eq_left_iff.mpr fun hge => habsent ⟨i, hi⟩ (Nat.not_lt.mp hge))

/-- The fifth timer is the only one that the default configuration lacks (R6, R12). -/
theorem eq_of_default_absentTimer : ∀ u : Fin 5, Config.default.numPrt.num ≤ u.val → u = 4 := by decide

/-- The eighth channel is the only one that the default configuration lacks (R6, R12). -/
theorem eq_of_default_absentChannel : ∀ ch : Fin 8, Config.default.numCh ≤ ch.val → ch = 7 := by decide

/-- Settles O46, field by field: with nothing pending every volume becomes 255 (R291). -/
theorem powerOnIsResetWithNothingPending : Obligations.PowerOnIsResetWithNothingPending := by
  intro s hcfg hdds hnz hprt hmute hy
  have hddsReset : (resetBlock false s).dds = Vector.replicate 4 (DdsChannel.cleared 255#8) :=
    (resetBlock_dds_eq_full_iff false s).mpr fun i => resetVolume_of_nothing_pending _ (hdds i)
  have hnzReset : (resetBlock false s).nz = NoiseChannel.cleared 255#8 :=
    (resetBlock_nz_eq_full_iff false s).mpr (resetVolume_of_nothing_pending _ hnz)
  have hprtReset : (resetBlock false s).prt = Vector.replicate 5 PhaseTimer.cleared :=
    eq_replicate_of_get (resetBlock_prt_get false s) fun u hu =>
      eq_of_default_absentTimer u (hcfg ▸ hu) ▸ hprt
  have hmuteReset : (resetBlock false s).mute = Vector.replicate 8 false :=
    eq_replicate_of_get (resetBlock_mute_get s) fun ch hch => eq_of_default_absentChannel ch (hcfg ▸ hch) ▸ hmute
  have hyReset : (resetBlock false s).y = Vector.replicate 8 0#16 :=
    eq_replicate_of_get (resetBlock_y_get false s) fun ch hch => eq_of_default_absentChannel ch (hcfg ▸ hch) ▸ hy
  have hcfgReset : (resetBlock false s).cfg = Config.default := hcfg
  dsimp only
  rw [hcfgReset, hddsReset, hnzReset, hprtReset, hmuteReset, hyReset]
  rfl

/-! ### Two resets in a row (R295; log 17) -/

/-- Writing the same places with the same value again changes nothing. -/
theorem eq_of_get_twice {α : Type} {n m : Nat} {v w x : Vector α n} {a : α}
    (hw : ∀ i : Fin n, w[i] = if i.val < m then a else v[i]) (hx : ∀ i : Fin n, x[i] = if i.val < m then a else w[i]) :
    x = w := by
  refine Vector.ext fun i hi => (hx ⟨i, hi⟩).trans ?_
  split
  next hlt => exact ((hw ⟨i, hi⟩).trans (if_pos hlt)).symm
  next => rfl

/-- A channel just reset has nothing pending, so a second reset gives every volume 255 and changes nothing else but the
record of calls (R290, R291). -/
theorem resetBlock_twice (p : Bool) (s : State) :
    { resetBlock p (resetBlock p s) with dacCalls := [] } =
      { resetBlock p s with dds := Vector.replicate 4 (DdsChannel.cleared 255#8), nz := NoiseChannel.cleared 255#8,
                            dacCalls := [] } := by
  have hdds : (resetBlock p (resetBlock p s)).dds = Vector.replicate 4 (DdsChannel.cleared 255#8) :=
    (resetBlock_dds_eq_full_iff p _).mpr fun i => by rw [resetBlock_dds]; exact resetVolume_cleared _ _
  have hnz : (resetBlock p (resetBlock p s)).nz = NoiseChannel.cleared 255#8 :=
    (resetBlock_nz_eq_full_iff p _).mpr (by rw [resetBlock_nz]; exact resetVolume_cleared _ _)
  have hprt : (resetBlock p (resetBlock p s)).prt = (resetBlock p s).prt :=
    eq_of_get_twice (resetBlock_prt_get p s) (resetBlock_prt_get p (resetBlock p s))
  have hy : resetOutputs (resetBlock p s) = (resetBlock p s).y :=
    eq_of_get_twice (resetBlock_y_get p s) (resetBlock_y_get p (resetBlock p s))
  have hmute : resetMute p (resetBlock p s) = (resetBlock p s).mute := by
    cases p with
    | true => rfl
    | false => exact eq_of_get_twice (resetBlock_mute_get s) (resetBlock_mute_get (resetBlock false s))
  rw [resetBlock_frame p (resetBlock p s), hdds, hnz, hprt, hy, hmute]
  rfl

/-- Two resets equal one exactly when the first leaves every volume at 255. -/
theorem resetBlock_twice_eq_iff (p : Bool) (s : State) :
    { resetBlock p (resetBlock p s) with dacCalls := [] } = { resetBlock p s with dacCalls := [] } ↔
      (∀ i : Fin 4, resetVolume s.cfg s.dds[i].toVolumePath = 255#8) ∧
        resetVolume s.cfg s.nz.toVolumePath = 255#8 := by
  rw [resetBlock_twice, ← resetBlock_dds_eq_full_iff p, ← resetBlock_nz_eq_full_iff p]
  refine ⟨fun h => ⟨(congrArg State.dds h).symm, (congrArg State.nz h).symm⟩, fun ⟨hdds, hnz⟩ => ?_⟩
  dsimp only
  rw [hdds, hnz]

/-- Settles O48: the first reset leaves every volume at 255 exactly when it applies no other code, and of what else it
writes each place gets a constant. -/
theorem twoResetsEqualOne : Obligations.TwoResetsEqualOne := by
  intro p s
  have hiff := resetBlock_twice_eq_iff p s
  refine ⟨fun h => hiff.mpr ?same, hiff.trans ?pending, fun u hcfg =>
    ⟨fun i => ?dds, rfl, fun t ht => ?prt, fun ch hch => ⟨?y, ?mute⟩, rfl⟩⟩
  case same =>
    obtain hparam | ⟨hdds, hnz⟩ := h
    · exact ⟨fun i => resetVolume_of_not_applied hparam _, resetVolume_of_not_applied hparam _⟩
    · exact ⟨fun i => resetVolume_of_nothing_pending _ (hdds i), resetVolume_of_nothing_pending _ hnz⟩
  case pending => simp only [resetVolume_eq_full_iff, imp_and, forall_comm (α := Fin 4)]
  case dds => rw [resetBlock_dds, resetBlock_dds]; rfl
  case prt => rw [resetBlock_prt_get, resetBlock_prt_get, hcfg, if_pos ht, if_pos ht]
  case y => rw [resetBlock_y_get, resetBlock_y_get, hcfg, if_pos hch, if_pos hch]
  case mute =>
    rintro rfl
    rw [resetBlock_mute_get, resetBlock_mute_get, hcfg, if_pos hch, if_pos hch]

/-- The power-on state with volume code 77 pending in DDS channel 0. -/
def codePending : State :=
  State.reset.modifyDds 0 fun d => { d with zcen := true, pvol := 77#8, pvalid := true }

/-- Refutes O47: with the parameter true, the first reset leaves `codePending` with the code 77, not 255 (log 17). -/
theorem not_twoResetsEqualOneAsR295Says : ¬ Obligations.TwoResetsEqualOneAsR295Says := by
  intro h
  obtain ⟨hdds, _⟩ := (resetBlock_twice_eq_iff true codePending).mp (h true codePending (.inl rfl))
  exact absurd (hdds 0) (by decide)

end Sys2Proof.Machine
end
